-- ==== Sys2Proof/Word.lean ====
section
/-! DEFINITION. The two widths of the machine (R8, R10 of spec/00_scope.md): an 8-bit data path and 16-bit
addresses. Bit-field helpers stand in Machine/Bits.lean. -/

namespace Sys2Proof

/-- A byte: the width of a general register and of one bus access (R8). -/
abbrev Byte := BitVec 8

/-- A 16-bit word: register pairs, SP, PC and bus addresses (R8). -/
abbrev Word := BitVec 16

end Sys2Proof
end

