-- ==== Sys2Proof/Machine/Bits.lean ====
section
/-! DEFINITION. Bit-field, byte-order and sign-extension helpers (R10, R51, R98). -/

namespace Sys2Proof.Machine

/-- `v[15:8]`. -/
def hiByte (v : Word) : Byte := v.extractLsb' 8 8

/-- `v[7:0]`. -/
def loByte (v : Word) : Byte := v.extractLsb' 0 8

/-- `hi:lo`, the concatenation with `hi` in the high bits (R10). -/
def joinBytes (hi lo : Byte) : Word := hi ++ lo

/-- `sext_16(e)` (R10, R98). -/
def signExtend16 (e : Byte) : Word := e.signExtend 16

/-- `zext_16(n)` (R10). -/
def zeroExtend16 (n : Byte) : Word := n.setWidth 16

/-- The mask `0x01 << b` of R233 and R235. -/
def bitMask (b : Nat) : Byte := (1#8) <<< b

end Sys2Proof.Machine
end

