-- ==== Sys2Proof/Syntax.lean ====
section
/-! DEFINITION. Instructions. `Instr` has one constructor per row of spec/opcode_table.json (511 rows, R108 of
spec/30_encoding.md), named by the row's mnemonic in lower case. `Form` is the same instruction at the level of the
spec's rules: one constructor per rule (or group of rules that differ in a table entry), operands as arguments. -/

namespace Sys2Proof

/-- The seven registers that the 3-bit code `r` names; code 110 is not a register (R93). -/
inductive Reg8 where
  | B | C | D | E | H | L | A
  deriving DecidableEq, Repr

/-- The register pairs of R94: BC, DE, HL, SP in the table `rp`, BC, DE, HL, AF in the table `rp2`. -/
inductive Pair where
  | BC | DE | HL | SP | AF
  deriving DecidableEq, Repr

/-- The conditions of R95. -/
inductive Cond where
  | NZ | Z | NC | C
  deriving DecidableEq, Repr

/-- A 3-bit field of an opcode byte: a bit index `b` (R97), a restart code `t` (R96), or `y` or `z` of R99. -/
inductive Code3 where
  | c0 | c1 | c2 | c3 | c4 | c5 | c6 | c7
  deriving DecidableEq, Repr

/-- The eight accumulator operations, in the order of their code `y` (R99). -/
inductive AluOp where
  | add | adc | sub | sbc | and | xor | or | cp
  deriving DecidableEq, Repr

/-- The eight rotates and shifts of the CB table, in the order of their code `y` (R101). -/
inductive ShiftOp where
  | rlc | rrc | rl | rr | sla | sra | swap | srl
  deriving DecidableEq, Repr

/-- An instruction as the spec's rules write it. -/
inductive Form where
  /-- R120 -/
  | ldRR (d r : Reg8)
  /-- R121 -/
  | ldRN (d : Reg8) (n : Byte)
  /-- R122 -/
  | ldRHL (d : Reg8)
  /-- R123 -/
  | ldHLR (r : Reg8)
  /-- R124 -/
  | ldHLN (n : Byte)
  /-- R125 -/
  | ldABC
  /-- R126 -/
  | ldADE
  /-- R127 -/
  | ldBCA
  /-- R128 -/
  | ldDEA
  /-- R129 -/
  | ldANN (nn : Word)
  /-- R130 -/
  | ldNNA (nn : Word)
  /-- R131 -/
  | ldAC
  /-- R132 -/
  | ldCA
  /-- R133 -/
  | ldAN (n : Byte)
  /-- R134 -/
  | ldNA (n : Byte)
  /-- R135 -/
  | ldAHLI
  /-- R136 -/
  | ldAHLD
  /-- R137 -/
  | ldHLIA
  /-- R138 -/
  | ldHLDA
  /-- R150: `dd` is BC, DE, HL or SP. -/
  | ldPairNN (p : Pair) (nn : Word)
  /-- R151 -/
  | ldSPHL
  /-- R152 -/
  | ldNNSP (nn : Word)
  /-- R153 -/
  | ldhlSPE (e : Byte)
  /-- R154: `qq` is BC, DE, HL or AF. -/
  | push (p : Pair)
  /-- R155: `qq` is BC, DE or HL. -/
  | pop (p : Pair)
  /-- R156 -/
  | popAF
  /-- R171, R174, R177, R180, R183, R186, R189, R192 -/
  | aluR (op : AluOp) (r : Reg8)
  /-- R172, R175, R178, R181, R184, R187, R190, R193 -/
  | aluHL (op : AluOp)
  /-- R173, R176, R179, R182, R185, R188, R191, R194 -/
  | aluN (op : AluOp) (n : Byte)
  /-- R195 -/
  | incR (r : Reg8)
  /-- R196 -/
  | incHL
  /-- R197 -/
  | decR (r : Reg8)
  /-- R198 -/
  | decHL
  /-- R200: `ss` is BC, DE, HL or SP. -/
  | addHLPair (p : Pair)
  /-- R201 -/
  | addSPE (e : Byte)
  /-- R202: `ss` is BC, DE, HL or SP. -/
  | incPair (p : Pair)
  /-- R203: `ss` is BC, DE, HL or SP. -/
  | decPair (p : Pair)
  /-- R210 -/
  | rlca
  /-- R211 -/
  | rla
  /-- R212 -/
  | rrca
  /-- R213 -/
  | rra
  /-- R215, R217, R219, R221, R223, R225, R227, R229 -/
  | shiftR (op : ShiftOp) (r : Reg8)
  /-- R216, R218, R220, R222, R224, R226, R228, R230 -/
  | shiftHL (op : ShiftOp)
  /-- R231 -/
  | bitR (b : Code3) (r : Reg8)
  /-- R232 -/
  | bitHL (b : Code3)
  /-- R233 -/
  | resR (b : Code3) (r : Reg8)
  /-- R234 -/
  | resHL (b : Code3)
  /-- R235 -/
  | setR (b : Code3) (r : Reg8)
  /-- R236 -/
  | setHL (b : Code3)
  /-- R241 -/
  | jpNN (nn : Word)
  /-- R242 -/
  | jpCC (cc : Cond) (nn : Word)
  /-- R243 -/
  | jpHL
  /-- R244 -/
  | jrE (e : Byte)
  /-- R245 -/
  | jrCC (cc : Cond) (e : Byte)
  /-- R246 -/
  | callNN (nn : Word)
  /-- R247 -/
  | callCC (cc : Cond) (nn : Word)
  /-- R248 -/
  | ret
  /-- R249 -/
  | retCC (cc : Cond)
  /-- R250 -/
  | reti
  /-- R252 -/
  | rst (t : Code3)
  /-- R260 -/
  | nop
  /-- R261 -/
  | daa
  /-- R262 -/
  | cpl
  /-- R263 -/
  | ccf
  /-- R264 -/
  | scf
  /-- R265 -/
  | di
  /-- R266 -/
  | ei
  /-- R267 -/
  | halt
  /-- R268; the padding byte is no operand (R107). -/
  | stop
  /-- R269: `op` is one of the eleven values of R102. -/
  | undefined (op : Byte)
  deriving DecidableEq, Repr

/-- One constructor per row of spec/opcode_table.json: first the rows with an operand byte, then the others, each in
the order of the table. -/
inductive Instr where
  | ld_bc_nn (nn : Word)
  | ld_b_n (n : Byte)
  | ld__nn__sp (nn : Word)
  | ld_c_n (n : Byte)
  | ld_de_nn (nn : Word)
  | ld_d_n (n : Byte)
  | jr_e (e : Byte)
  | ld_e_n (n : Byte)
  | jr_nz_e (e : Byte)
  | ld_hl_nn (nn : Word)
  | ld_h_n (n : Byte)
  | jr_z_e (e : Byte)
  | ld_l_n (n : Byte)
  | jr_nc_e (e : Byte)
  | ld_sp_nn (nn : Word)
  | ld__hl__n (n : Byte)
  | jr_c_e (e : Byte)
  | ld_a_n (n : Byte)
  | jp_nz_nn (nn : Word)
  | jp_nn (nn : Word)
  | call_nz_nn (nn : Word)
  | add_a_n (n : Byte)
  | jp_z_nn (nn : Word)
  | call_z_nn (nn : Word)
  | call_nn (nn : Word)
  | adc_a_n (n : Byte)
  | jp_nc_nn (nn : Word)
  | call_nc_nn (nn : Word)
  | sub_n (n : Byte)
  | jp_c_nn (nn : Word)
  | call_c_nn (nn : Word)
  | sbc_a_n (n : Byte)
  | ld__n__a (n : Byte)
  | and_n (n : Byte)
  | add_sp_e (e : Byte)
  | ld__nn__a (nn : Word)
  | xor_n (n : Byte)
  | ld_a__n (n : Byte)
  | or_n (n : Byte)
  | ldhl_sp_e (e : Byte)
  | ld_a__nn (nn : Word)
  | cp_n (n : Byte)
  | nop
  | ld__bc__a
  | inc_bc
  | inc_b
  | dec_b
  | rlca
  | add_hl_bc
  | ld_a__bc
  | dec_bc
  | inc_c
  | dec_c
  | rrca
  | stop
  | ld__de__a
  | inc_de
  | inc_d
  | dec_d
  | rla
  | add_hl_de
  | ld_a__de
  | dec_de
  | inc_e
  | dec_e
  | rra
  | ld__hli__a
  | inc_hl
  | inc_h
  | dec_h
  | daa
  | add_hl_hl
  | ld_a__hli
  | dec_hl
  | inc_l
  | dec_l
  | cpl
  | ld__hld__a
  | inc_sp
  | inc__hl
  | dec__hl
  | scf
  | add_hl_sp
  | ld_a__hld
  | dec_sp
  | inc_a
  | dec_a
  | ccf
  | ld_b_b
  | ld_b_c
  | ld_b_d
  | ld_b_e
  | ld_b_h
  | ld_b_l
  | ld_b__hl
  | ld_b_a
  | ld_c_b
  | ld_c_c
  | ld_c_d
  | ld_c_e
  | ld_c_h
  | ld_c_l
  | ld_c__hl
  | ld_c_a
  | ld_d_b
  | ld_d_c
  | ld_d_d
  | ld_d_e
  | ld_d_h
  | ld_d_l
  | ld_d__hl
  | ld_d_a
  | ld_e_b
  | ld_e_c
  | ld_e_d
  | ld_e_e
  | ld_e_h
  | ld_e_l
  | ld_e__hl
  | ld_e_a
  | ld_h_b
  | ld_h_c
  | ld_h_d
  | ld_h_e
  | ld_h_h
  | ld_h_l
  | ld_h__hl
  | ld_h_a
  | ld_l_b
  | ld_l_c
  | ld_l_d
  | ld_l_e
  | ld_l_h
  | ld_l_l
  | ld_l__hl
  | ld_l_a
  | ld__hl__b
  | ld__hl__c
  | ld__hl__d
  | ld__hl__e
  | ld__hl__h
  | ld__hl__l
  | halt
  | ld__hl__a
  | ld_a_b
  | ld_a_c
  | ld_a_d
  | ld_a_e
  | ld_a_h
  | ld_a_l
  | ld_a__hl
  | ld_a_a
  | add_a_b
  | add_a_c
  | add_a_d
  | add_a_e
  | add_a_h
  | add_a_l
  | add_a__hl
  | add_a_a
  | adc_a_b
  | adc_a_c
  | adc_a_d
  | adc_a_e
  | adc_a_h
  | adc_a_l
  | adc_a__hl
  | adc_a_a
  | sub_b
  | sub_c
  | sub_d
  | sub_e
  | sub_h
  | sub_l
  | sub__hl
  | sub_a
  | sbc_a_b
  | sbc_a_c
  | sbc_a_d
  | sbc_a_e
  | sbc_a_h
  | sbc_a_l
  | sbc_a__hl
  | sbc_a_a
  | and_b
  | and_c
  | and_d
  | and_e
  | and_h
  | and_l
  | and__hl
  | and_a
  | xor_b
  | xor_c
  | xor_d
  | xor_e
  | xor_h
  | xor_l
  | xor__hl
  | xor_a
  | or_b
  | or_c
  | or_d
  | or_e
  | or_h
  | or_l
  | or__hl
  | or_a
  | cp_b
  | cp_c
  | cp_d
  | cp_e
  | cp_h
  | cp_l
  | cp__hl
  | cp_a
  | ret_nz
  | pop_bc
  | push_bc
  | rst_00h
  | ret_z
  | ret
  | rst_08h
  | ret_nc
  | pop_de
  | undefined_0xd3
  | push_de
  | rst_10h
  | ret_c
  | reti
  | undefined_0xdb
  | undefined_0xdd
  | rst_18h
  | pop_hl
  | ld__c__a
  | undefined_0xe3
  | undefined_0xe4
  | push_hl
  | rst_20h
  | jp__hl
  | undefined_0xeb
  | undefined_0xec
  | undefined_0xed
  | rst_28h
  | pop_af
  | ld_a__c
  | di
  | undefined_0xf4
  | push_af
  | rst_30h
  | ld_sp_hl
  | ei
  | undefined_0xfc
  | undefined_0xfd
  | rst_38h
  | rlc_b
  | rlc_c
  | rlc_d
  | rlc_e
  | rlc_h
  | rlc_l
  | rlc__hl
  | rlc_a
  | rrc_b
  | rrc_c
  | rrc_d
  | rrc_e
  | rrc_h
  | rrc_l
  | rrc__hl
  | rrc_a
  | rl_b
  | rl_c
  | rl_d
  | rl_e
  | rl_h
  | rl_l
  | rl__hl
  | rl_a
  | rr_b
  | rr_c
  | rr_d
  | rr_e
  | rr_h
  | rr_l
  | rr__hl
  | rr_a
  | sla_b
  | sla_c
  | sla_d
  | sla_e
  | sla_h
  | sla_l
  | sla__hl
  | sla_a
  | sra_b
  | sra_c
  | sra_d
  | sra_e
  | sra_h
  | sra_l
  | sra__hl
  | sra_a
  | swap_b
  | swap_c
  | swap_d
  | swap_e
  | swap_h
  | swap_l
  | swap__hl
  | swap_a
  | srl_b
  | srl_c
  | srl_d
  | srl_e
  | srl_h
  | srl_l
  | srl__hl
  | srl_a
  | bit_0_b
  | bit_0_c
  | bit_0_d
  | bit_0_e
  | bit_0_h
  | bit_0_l
  | bit_0__hl
  | bit_0_a
  | bit_1_b
  | bit_1_c
  | bit_1_d
  | bit_1_e
  | bit_1_h
  | bit_1_l
  | bit_1__hl
  | bit_1_a
  | bit_2_b
  | bit_2_c
  | bit_2_d
  | bit_2_e
  | bit_2_h
  | bit_2_l
  | bit_2__hl
  | bit_2_a
  | bit_3_b
  | bit_3_c
  | bit_3_d
  | bit_3_e
  | bit_3_h
  | bit_3_l
  | bit_3__hl
  | bit_3_a
  | bit_4_b
  | bit_4_c
  | bit_4_d
  | bit_4_e
  | bit_4_h
  | bit_4_l
  | bit_4__hl
  | bit_4_a
  | bit_5_b
  | bit_5_c
  | bit_5_d
  | bit_5_e
  | bit_5_h
  | bit_5_l
  | bit_5__hl
  | bit_5_a
  | bit_6_b
  | bit_6_c
  | bit_6_d
  | bit_6_e
  | bit_6_h
  | bit_6_l
  | bit_6__hl
  | bit_6_a
  | bit_7_b
  | bit_7_c
  | bit_7_d
  | bit_7_e
  | bit_7_h
  | bit_7_l
  | bit_7__hl
  | bit_7_a
  | res_0_b
  | res_0_c
  | res_0_d
  | res_0_e
  | res_0_h
  | res_0_l
  | res_0__hl
  | res_0_a
  | res_1_b
  | res_1_c
  | res_1_d
  | res_1_e
  | res_1_h
  | res_1_l
  | res_1__hl
  | res_1_a
  | res_2_b
  | res_2_c
  | res_2_d
  | res_2_e
  | res_2_h
  | res_2_l
  | res_2__hl
  | res_2_a
  | res_3_b
  | res_3_c
  | res_3_d
  | res_3_e
  | res_3_h
  | res_3_l
  | res_3__hl
  | res_3_a
  | res_4_b
  | res_4_c
  | res_4_d
  | res_4_e
  | res_4_h
  | res_4_l
  | res_4__hl
  | res_4_a
  | res_5_b
  | res_5_c
  | res_5_d
  | res_5_e
  | res_5_h
  | res_5_l
  | res_5__hl
  | res_5_a
  | res_6_b
  | res_6_c
  | res_6_d
  | res_6_e
  | res_6_h
  | res_6_l
  | res_6__hl
  | res_6_a
  | res_7_b
  | res_7_c
  | res_7_d
  | res_7_e
  | res_7_h
  | res_7_l
  | res_7__hl
  | res_7_a
  | set_0_b
  | set_0_c
  | set_0_d
  | set_0_e
  | set_0_h
  | set_0_l
  | set_0__hl
  | set_0_a
  | set_1_b
  | set_1_c
  | set_1_d
  | set_1_e
  | set_1_h
  | set_1_l
  | set_1__hl
  | set_1_a
  | set_2_b
  | set_2_c
  | set_2_d
  | set_2_e
  | set_2_h
  | set_2_l
  | set_2__hl
  | set_2_a
  | set_3_b
  | set_3_c
  | set_3_d
  | set_3_e
  | set_3_h
  | set_3_l
  | set_3__hl
  | set_3_a
  | set_4_b
  | set_4_c
  | set_4_d
  | set_4_e
  | set_4_h
  | set_4_l
  | set_4__hl
  | set_4_a
  | set_5_b
  | set_5_c
  | set_5_d
  | set_5_e
  | set_5_h
  | set_5_l
  | set_5__hl
  | set_5_a
  | set_6_b
  | set_6_c
  | set_6_d
  | set_6_e
  | set_6_h
  | set_6_l
  | set_6__hl
  | set_6_a
  | set_7_b
  | set_7_c
  | set_7_d
  | set_7_e
  | set_7_h
  | set_7_l
  | set_7__hl
  | set_7_a
  deriving DecidableEq, Repr

end Sys2Proof
end

