-- ==== Sys2Proof/WellFormed.lean ====
section
/-! DEFINITION. Which forms are instructions. The operand types leave four checks: the pair tables `rp` and `rp2`
of R94, the pairs of R155, and the eleven opcodes of R102. Every `Instr` is well formed by its type, since the
table lists encodings and "no bit of any instruction is a 'should be zero' bit" (R103). -/

namespace Sys2Proof

/-- A pair of the table `rp` (`dd`, `ss`; R94). -/
def Pair.inRp : Pair → Bool
  | .BC | .DE | .HL | .SP => true
  | .AF => false

/-- A pair of the table `rp2` (`qq`; R94). -/
def Pair.inRp2 : Pair → Bool
  | .BC | .DE | .HL | .AF => true
  | .SP => false

/-- The eleven undefined opcodes (R102). -/
def undefinedOpcodes : List Byte :=
  [0xD3, 0xDB, 0xDD, 0xE3, 0xE4, 0xEB, 0xEC, 0xED, 0xF4, 0xFC, 0xFD]

/-- The operands a form's rule admits: R150, R200, R202, R203 take `rp`; R154 takes `rp2`; R155 takes BC, DE, HL;
R269 takes one of the eleven values of R102. -/
def Form.wellFormed : Form → Bool
  | .ldPairNN p _ => p.inRp
  | .addHLPair p => p.inRp
  | .incPair p => p.inRp
  | .decPair p => p.inRp
  | .push p => p.inRp2
  | .pop p => p.inRp && p.inRp2
  | .undefined op => undefinedOpcodes.contains op
  | .ldRR _ _ | .ldRN _ _ | .ldRHL _ | .ldHLR _ | .ldHLN _ | .ldABC | .ldADE | .ldBCA | .ldDEA | .ldANN _
  | .ldNNA _ | .ldAC | .ldCA | .ldAN _ | .ldNA _ | .ldAHLI | .ldAHLD | .ldHLIA | .ldHLDA => true
  | .ldSPHL | .ldNNSP _ | .ldhlSPE _ | .popAF => true
  | .aluR _ _ | .aluHL _ | .aluN _ _ | .incR _ | .incHL | .decR _ | .decHL | .addSPE _ => true
  | .rlca | .rla | .rrca | .rra | .shiftR _ _ | .shiftHL _ => true
  | .bitR _ _ | .bitHL _ | .resR _ _ | .resHL _ | .setR _ _ | .setHL _ => true
  | .jpNN _ | .jpCC _ _ | .jpHL | .jrE _ | .jrCC _ _ | .callNN _ | .callCC _ _ | .ret | .retCC _ | .reti
  | .rst _ => true
  | .nop | .daa | .cpl | .ccf | .scf | .di | .ei | .halt | .stop => true

end Sys2Proof
end

