-- ==== Sys2Proof/Decode.lean ====
section
/-! DEFINITION. Decoding and encoding (R90 to R108 of spec/30_encoding.md). The decoder splits an opcode byte into
the fields x, y, z of R99 and R101, builds the `Form`, and names the table row. It is total: on any three bytes it
gives an instruction, and on a list of bytes it rejects only a list that ends too early, by name. The encoder is
written from the field layouts of the instruction rules. -/

namespace Sys2Proof

open Sys2Proof.Machine (hiByte loByte joinBytes)

/-! ### Field codes -/

/-- A 3-bit field as a code (R99). -/
def Code3.ofField : Nat → Code3
  | 0 => .c0 | 1 => .c1 | 2 => .c2 | 3 => .c3 | 4 => .c4 | 5 => .c5 | 6 => .c6 | _ => .c7

/-- The value of a 3-bit field. -/
def Code3.val : Code3 → Nat
  | .c0 => 0 | .c1 => 1 | .c2 => 2 | .c3 => 3 | .c4 => 4 | .c5 => 5 | .c6 => 6 | .c7 => 7

/-- The register of a 3-bit code; code 110 is the byte at HL (R93). -/
def reg8OfCode : Code3 → Option Reg8
  | .c0 => some .B | .c1 => some .C | .c2 => some .D | .c3 => some .E
  | .c4 => some .H | .c5 => some .L | .c6 => none | .c7 => some .A

/-- The code of a register (R93). -/
def Reg8.code : Reg8 → Nat
  | .B => 0 | .C => 1 | .D => 2 | .E => 3 | .H => 4 | .L => 5 | .A => 7

/-- The code of the operand (HL) (R93). -/
def codeHL : Nat := 6

/-- The pair of a code of the table `rp`, which is `p = y / 2` of R99 (R94). -/
def rpOfY : Code3 → Pair
  | .c0 | .c1 => .BC
  | .c2 | .c3 => .DE
  | .c4 | .c5 => .HL
  | .c6 | .c7 => .SP

/-- The code of a pair: SP in `rp` and AF in `rp2` are both 11 (R94). -/
def Pair.code : Pair → Nat
  | .BC => 0 | .DE => 1 | .HL => 2 | .SP => 3 | .AF => 3

/-- The condition of a code (R95). -/
def Cond.code : Cond → Nat
  | .NZ => 0 | .Z => 1 | .NC => 2 | .C => 3

/-- The accumulator operation of `y` (R99). -/
def aluOfCode : Code3 → AluOp
  | .c0 => .add | .c1 => .adc | .c2 => .sub | .c3 => .sbc | .c4 => .and | .c5 => .xor | .c6 => .or | .c7 => .cp

/-- The code of an accumulator operation (R99). -/
def AluOp.code : AluOp → Nat
  | .add => 0 | .adc => 1 | .sub => 2 | .sbc => 3 | .and => 4 | .xor => 5 | .or => 6 | .cp => 7

/-- The rotate or shift of `y` (R101). -/
def shiftOfCode : Code3 → ShiftOp
  | .c0 => .rlc | .c1 => .rrc | .c2 => .rl | .c3 => .rr | .c4 => .sla | .c5 => .sra | .c6 => .swap | .c7 => .srl

/-- The code of a rotate or shift (R101). -/
def ShiftOp.code : ShiftOp → Nat
  | .rlc => 0 | .rrc => 1 | .rl => 2 | .rr => 3 | .sla => 4 | .sra => 5 | .swap => 6 | .srl => 7

/-! ### Bytes to forms -/

/-- The escape opcode that selects the extended table (R92). -/
def escapeOpcode : Byte := 0xCB

/-- `x = op[7:6]` (R99). -/
def fieldX (op : Byte) : Nat := op.toNat / 64

/-- `y = op[5:3]` (R99). -/
def fieldY (op : Byte) : Code3 := Code3.ofField (op.toNat / 8 % 8)

/-- `z = op[2:0]` (R99). -/
def fieldZ (op : Byte) : Code3 := Code3.ofField (op.toNat % 8)

/-- The block `x = 0` of the base table (R99); `n` is byte 1 (also as `e`), `nn` bytes 1 and 2. -/
def formX0 (y z : Code3) (n : Byte) (nn : Word) : Form :=
  match z with
  | .c0 =>
    match y with
    | .c0 => .nop
    | .c1 => .ldNNSP nn
    | .c2 => .stop
    | .c3 => .jrE n
    | .c4 => .jrCC .NZ n
    | .c5 => .jrCC .Z n
    | .c6 => .jrCC .NC n
    | .c7 => .jrCC .C n
  | .c1 =>
    match y with
    | .c0 | .c2 | .c4 | .c6 => .ldPairNN (rpOfY y) nn
    | .c1 | .c3 | .c5 | .c7 => .addHLPair (rpOfY y)
  | .c2 =>
    match y with
    | .c0 => .ldBCA
    | .c1 => .ldABC
    | .c2 => .ldDEA
    | .c3 => .ldADE
    | .c4 => .ldHLIA
    | .c5 => .ldAHLI
    | .c6 => .ldHLDA
    | .c7 => .ldAHLD
  | .c3 =>
    match y with
    | .c0 | .c2 | .c4 | .c6 => .incPair (rpOfY y)
    | .c1 | .c3 | .c5 | .c7 => .decPair (rpOfY y)
  | .c4 =>
    match reg8OfCode y with
    | some r => .incR r
    | none => .incHL
  | .c5 =>
    match reg8OfCode y with
    | some r => .decR r
    | none => .decHL
  | .c6 =>
    match reg8OfCode y with
    | some r => .ldRN r n
    | none => .ldHLN n
  | .c7 =>
    match y with
    | .c0 => .rlca
    | .c1 => .rrca
    | .c2 => .rla
    | .c3 => .rra
    | .c4 => .daa
    | .c5 => .cpl
    | .c6 => .scf
    | .c7 => .ccf

/-- The block `x = 1` (R99): LD r8[y],r8[z], and HALT at `y = z = 6`. -/
def formX1 (y z : Code3) : Form :=
  match reg8OfCode y, reg8OfCode z with
  | some d, some r => .ldRR d r
  | some d, none => .ldRHL d
  | none, some r => .ldHLR r
  | none, none => .halt

/-- The block `x = 2` (R99): accumulator operation `y` on r8[z]. -/
def formX2 (y z : Code3) : Form :=
  match reg8OfCode z with
  | some r => .aluR (aluOfCode y) r
  | none => .aluHL (aluOfCode y)

/-- The block `x = 3` (R99); `op` is the opcode byte itself, carried by the undefined opcodes (R102). The escape
opcode is not decoded here (R92), so its place gives the same answer as an undefined opcode and is never asked. -/
def formX3 (op : Byte) (y z : Code3) (n : Byte) (nn : Word) : Form :=
  match z with
  | .c0 =>
    match y with
    | .c0 => .retCC .NZ
    | .c1 => .retCC .Z
    | .c2 => .retCC .NC
    | .c3 => .retCC .C
    | .c4 => .ldNA n
    | .c5 => .addSPE n
    | .c6 => .ldAN n
    | .c7 => .ldhlSPE n
  | .c1 =>
    match y with
    | .c0 => .pop .BC
    | .c2 => .pop .DE
    | .c4 => .pop .HL
    | .c6 => .popAF
    | .c1 => .ret
    | .c3 => .reti
    | .c5 => .jpHL
    | .c7 => .ldSPHL
  | .c2 =>
    match y with
    | .c0 => .jpCC .NZ nn
    | .c1 => .jpCC .Z nn
    | .c2 => .jpCC .NC nn
    | .c3 => .jpCC .C nn
    | .c4 => .ldCA
    | .c5 => .ldNNA nn
    | .c6 => .ldAC
    | .c7 => .ldANN nn
  | .c3 =>
    match y with
    | .c0 => .jpNN nn
    | .c1 | .c2 | .c3 | .c4 | .c5 => .undefined op
    | .c6 => .di
    | .c7 => .ei
  | .c4 =>
    match y with
    | .c0 => .callCC .NZ nn
    | .c1 => .callCC .Z nn
    | .c2 => .callCC .NC nn
    | .c3 => .callCC .C nn
    | .c4 | .c5 | .c6 | .c7 => .undefined op
  | .c5 =>
    match y with
    | .c0 => .push .BC
    | .c2 => .push .DE
    | .c4 => .push .HL
    | .c6 => .push .AF
    | .c1 => .callNN nn
    | .c3 | .c5 | .c7 => .undefined op
  | .c6 => .aluN (aluOfCode y) n
  | .c7 => .rst y

/-- A base-table opcode other than the escape opcode (R99, R100). -/
def baseForm (op n : Byte) (nn : Word) : Form :=
  match fieldX op with
  | 0 => formX0 (fieldY op) (fieldZ op) n nn
  | 1 => formX1 (fieldY op) (fieldZ op)
  | 2 => formX2 (fieldY op) (fieldZ op)
  | _ => formX3 op (fieldY op) (fieldZ op) n nn

/-- The byte after the escape opcode (R101): all 256 values are defined. -/
def cbForm (op2 : Byte) : Form :=
  match fieldX op2, reg8OfCode (fieldZ op2) with
  | 0, some r => .shiftR (shiftOfCode (fieldY op2)) r
  | 0, none => .shiftHL (shiftOfCode (fieldY op2))
  | 1, some r => .bitR (fieldY op2) r
  | 1, none => .bitHL (fieldY op2)
  | 2, some r => .resR (fieldY op2) r
  | 2, none => .resHL (fieldY op2)
  | _, some r => .setR (fieldY op2) r
  | _, none => .setHL (fieldY op2)

/-- The form of the instruction whose first bytes are `b0`, `b1`, `b2` (R104); bytes past its length are ignored. -/
def formOfBytes (b0 b1 b2 : Byte) : Form :=
  if b0 = escapeOpcode then cbForm b1 else baseForm b0 b1 (joinBytes b2 b1)

/-! ### Forms and table rows -/

/-- The table row of each form of `LD r,r'` (R120). -/
def rowLdRR : Reg8 → Reg8 → Instr
  | .B, .B => .ld_b_b
  | .B, .C => .ld_b_c
  | .B, .D => .ld_b_d
  | .B, .E => .ld_b_e
  | .B, .H => .ld_b_h
  | .B, .L => .ld_b_l
  | .B, .A => .ld_b_a
  | .C, .B => .ld_c_b
  | .C, .C => .ld_c_c
  | .C, .D => .ld_c_d
  | .C, .E => .ld_c_e
  | .C, .H => .ld_c_h
  | .C, .L => .ld_c_l
  | .C, .A => .ld_c_a
  | .D, .B => .ld_d_b
  | .D, .C => .ld_d_c
  | .D, .D => .ld_d_d
  | .D, .E => .ld_d_e
  | .D, .H => .ld_d_h
  | .D, .L => .ld_d_l
  | .D, .A => .ld_d_a
  | .E, .B => .ld_e_b
  | .E, .C => .ld_e_c
  | .E, .D => .ld_e_d
  | .E, .E => .ld_e_e
  | .E, .H => .ld_e_h
  | .E, .L => .ld_e_l
  | .E, .A => .ld_e_a
  | .H, .B => .ld_h_b
  | .H, .C => .ld_h_c
  | .H, .D => .ld_h_d
  | .H, .E => .ld_h_e
  | .H, .H => .ld_h_h
  | .H, .L => .ld_h_l
  | .H, .A => .ld_h_a
  | .L, .B => .ld_l_b
  | .L, .C => .ld_l_c
  | .L, .D => .ld_l_d
  | .L, .E => .ld_l_e
  | .L, .H => .ld_l_h
  | .L, .L => .ld_l_l
  | .L, .A => .ld_l_a
  | .A, .B => .ld_a_b
  | .A, .C => .ld_a_c
  | .A, .D => .ld_a_d
  | .A, .E => .ld_a_e
  | .A, .H => .ld_a_h
  | .A, .L => .ld_a_l
  | .A, .A => .ld_a_a

/-- The rows of R121. -/
def rowLdRN : Reg8 → Byte → Instr
  | .B, n => .ld_b_n n
  | .C, n => .ld_c_n n
  | .D, n => .ld_d_n n
  | .E, n => .ld_e_n n
  | .H, n => .ld_h_n n
  | .L, n => .ld_l_n n
  | .A, n => .ld_a_n n

/-- The rows of R122. -/
def rowLdRHL : Reg8 → Instr
  | .B => .ld_b__hl
  | .C => .ld_c__hl
  | .D => .ld_d__hl
  | .E => .ld_e__hl
  | .H => .ld_h__hl
  | .L => .ld_l__hl
  | .A => .ld_a__hl

/-- The rows of R123. -/
def rowLdHLR : Reg8 → Instr
  | .B => .ld__hl__b
  | .C => .ld__hl__c
  | .D => .ld__hl__d
  | .E => .ld__hl__e
  | .H => .ld__hl__h
  | .L => .ld__hl__l
  | .A => .ld__hl__a

/-- The rows of R171, R174, R177, R180, R183, R186, R189, R192. -/
def rowAluR : AluOp → Reg8 → Instr
  | .add, .B => .add_a_b
  | .add, .C => .add_a_c
  | .add, .D => .add_a_d
  | .add, .E => .add_a_e
  | .add, .H => .add_a_h
  | .add, .L => .add_a_l
  | .add, .A => .add_a_a
  | .adc, .B => .adc_a_b
  | .adc, .C => .adc_a_c
  | .adc, .D => .adc_a_d
  | .adc, .E => .adc_a_e
  | .adc, .H => .adc_a_h
  | .adc, .L => .adc_a_l
  | .adc, .A => .adc_a_a
  | .sub, .B => .sub_b
  | .sub, .C => .sub_c
  | .sub, .D => .sub_d
  | .sub, .E => .sub_e
  | .sub, .H => .sub_h
  | .sub, .L => .sub_l
  | .sub, .A => .sub_a
  | .sbc, .B => .sbc_a_b
  | .sbc, .C => .sbc_a_c
  | .sbc, .D => .sbc_a_d
  | .sbc, .E => .sbc_a_e
  | .sbc, .H => .sbc_a_h
  | .sbc, .L => .sbc_a_l
  | .sbc, .A => .sbc_a_a
  | .and, .B => .and_b
  | .and, .C => .and_c
  | .and, .D => .and_d
  | .and, .E => .and_e
  | .and, .H => .and_h
  | .and, .L => .and_l
  | .and, .A => .and_a
  | .xor, .B => .xor_b
  | .xor, .C => .xor_c
  | .xor, .D => .xor_d
  | .xor, .E => .xor_e
  | .xor, .H => .xor_h
  | .xor, .L => .xor_l
  | .xor, .A => .xor_a
  | .or, .B => .or_b
  | .or, .C => .or_c
  | .or, .D => .or_d
  | .or, .E => .or_e
  | .or, .H => .or_h
  | .or, .L => .or_l
  | .or, .A => .or_a
  | .cp, .B => .cp_b
  | .cp, .C => .cp_c
  | .cp, .D => .cp_d
  | .cp, .E => .cp_e
  | .cp, .H => .cp_h
  | .cp, .L => .cp_l
  | .cp, .A => .cp_a

/-- The rows of R172, R175, R178, R181, R184, R187, R190, R193. -/
def rowAluHL : AluOp → Instr
  | .add => .add_a__hl
  | .adc => .adc_a__hl
  | .sub => .sub__hl
  | .sbc => .sbc_a__hl
  | .and => .and__hl
  | .xor => .xor__hl
  | .or => .or__hl
  | .cp => .cp__hl

/-- The rows of R173, R176, R179, R182, R185, R188, R191, R194. -/
def rowAluN : AluOp → Byte → Instr
  | .add, n => .add_a_n n
  | .adc, n => .adc_a_n n
  | .sub, n => .sub_n n
  | .sbc, n => .sbc_a_n n
  | .and, n => .and_n n
  | .xor, n => .xor_n n
  | .or, n => .or_n n
  | .cp, n => .cp_n n

/-- The rows of R195. -/
def rowIncR : Reg8 → Instr
  | .B => .inc_b
  | .C => .inc_c
  | .D => .inc_d
  | .E => .inc_e
  | .H => .inc_h
  | .L => .inc_l
  | .A => .inc_a

/-- The rows of R197. -/
def rowDecR : Reg8 → Instr
  | .B => .dec_b
  | .C => .dec_c
  | .D => .dec_d
  | .E => .dec_e
  | .H => .dec_h
  | .L => .dec_l
  | .A => .dec_a

/-- The rows of R215 to R229 on a register. -/
def rowShiftR : ShiftOp → Reg8 → Instr
  | .rlc, .B => .rlc_b
  | .rlc, .C => .rlc_c
  | .rlc, .D => .rlc_d
  | .rlc, .E => .rlc_e
  | .rlc, .H => .rlc_h
  | .rlc, .L => .rlc_l
  | .rlc, .A => .rlc_a
  | .rrc, .B => .rrc_b
  | .rrc, .C => .rrc_c
  | .rrc, .D => .rrc_d
  | .rrc, .E => .rrc_e
  | .rrc, .H => .rrc_h
  | .rrc, .L => .rrc_l
  | .rrc, .A => .rrc_a
  | .rl, .B => .rl_b
  | .rl, .C => .rl_c
  | .rl, .D => .rl_d
  | .rl, .E => .rl_e
  | .rl, .H => .rl_h
  | .rl, .L => .rl_l
  | .rl, .A => .rl_a
  | .rr, .B => .rr_b
  | .rr, .C => .rr_c
  | .rr, .D => .rr_d
  | .rr, .E => .rr_e
  | .rr, .H => .rr_h
  | .rr, .L => .rr_l
  | .rr, .A => .rr_a
  | .sla, .B => .sla_b
  | .sla, .C => .sla_c
  | .sla, .D => .sla_d
  | .sla, .E => .sla_e
  | .sla, .H => .sla_h
  | .sla, .L => .sla_l
  | .sla, .A => .sla_a
  | .sra, .B => .sra_b
  | .sra, .C => .sra_c
  | .sra, .D => .sra_d
  | .sra, .E => .sra_e
  | .sra, .H => .sra_h
  | .sra, .L => .sra_l
  | .sra, .A => .sra_a
  | .swap, .B => .swap_b
  | .swap, .C => .swap_c
  | .swap, .D => .swap_d
  | .swap, .E => .swap_e
  | .swap, .H => .swap_h
  | .swap, .L => .swap_l
  | .swap, .A => .swap_a
  | .srl, .B => .srl_b
  | .srl, .C => .srl_c
  | .srl, .D => .srl_d
  | .srl, .E => .srl_e
  | .srl, .H => .srl_h
  | .srl, .L => .srl_l
  | .srl, .A => .srl_a

/-- The rows of R216 to R230 on (HL). -/
def rowShiftHL : ShiftOp → Instr
  | .rlc => .rlc__hl
  | .rrc => .rrc__hl
  | .rl => .rl__hl
  | .rr => .rr__hl
  | .sla => .sla__hl
  | .sra => .sra__hl
  | .swap => .swap__hl
  | .srl => .srl__hl

/-- The rows of R231. -/
def rowBitR : Code3 → Reg8 → Instr
  | .c0, .B => .bit_0_b
  | .c0, .C => .bit_0_c
  | .c0, .D => .bit_0_d
  | .c0, .E => .bit_0_e
  | .c0, .H => .bit_0_h
  | .c0, .L => .bit_0_l
  | .c0, .A => .bit_0_a
  | .c1, .B => .bit_1_b
  | .c1, .C => .bit_1_c
  | .c1, .D => .bit_1_d
  | .c1, .E => .bit_1_e
  | .c1, .H => .bit_1_h
  | .c1, .L => .bit_1_l
  | .c1, .A => .bit_1_a
  | .c2, .B => .bit_2_b
  | .c2, .C => .bit_2_c
  | .c2, .D => .bit_2_d
  | .c2, .E => .bit_2_e
  | .c2, .H => .bit_2_h
  | .c2, .L => .bit_2_l
  | .c2, .A => .bit_2_a
  | .c3, .B => .bit_3_b
  | .c3, .C => .bit_3_c
  | .c3, .D => .bit_3_d
  | .c3, .E => .bit_3_e
  | .c3, .H => .bit_3_h
  | .c3, .L => .bit_3_l
  | .c3, .A => .bit_3_a
  | .c4, .B => .bit_4_b
  | .c4, .C => .bit_4_c
  | .c4, .D => .bit_4_d
  | .c4, .E => .bit_4_e
  | .c4, .H => .bit_4_h
  | .c4, .L => .bit_4_l
  | .c4, .A => .bit_4_a
  | .c5, .B => .bit_5_b
  | .c5, .C => .bit_5_c
  | .c5, .D => .bit_5_d
  | .c5, .E => .bit_5_e
  | .c5, .H => .bit_5_h
  | .c5, .L => .bit_5_l
  | .c5, .A => .bit_5_a
  | .c6, .B => .bit_6_b
  | .c6, .C => .bit_6_c
  | .c6, .D => .bit_6_d
  | .c6, .E => .bit_6_e
  | .c6, .H => .bit_6_h
  | .c6, .L => .bit_6_l
  | .c6, .A => .bit_6_a
  | .c7, .B => .bit_7_b
  | .c7, .C => .bit_7_c
  | .c7, .D => .bit_7_d
  | .c7, .E => .bit_7_e
  | .c7, .H => .bit_7_h
  | .c7, .L => .bit_7_l
  | .c7, .A => .bit_7_a

/-- The rows of R232. -/
def rowBitHL : Code3 → Instr
  | .c0 => .bit_0__hl
  | .c1 => .bit_1__hl
  | .c2 => .bit_2__hl
  | .c3 => .bit_3__hl
  | .c4 => .bit_4__hl
  | .c5 => .bit_5__hl
  | .c6 => .bit_6__hl
  | .c7 => .bit_7__hl

/-- The rows of R233. -/
def rowResR : Code3 → Reg8 → Instr
  | .c0, .B => .res_0_b
  | .c0, .C => .res_0_c
  | .c0, .D => .res_0_d
  | .c0, .E => .res_0_e
  | .c0, .H => .res_0_h
  | .c0, .L => .res_0_l
  | .c0, .A => .res_0_a
  | .c1, .B => .res_1_b
  | .c1, .C => .res_1_c
  | .c1, .D => .res_1_d
  | .c1, .E => .res_1_e
  | .c1, .H => .res_1_h
  | .c1, .L => .res_1_l
  | .c1, .A => .res_1_a
  | .c2, .B => .res_2_b
  | .c2, .C => .res_2_c
  | .c2, .D => .res_2_d
  | .c2, .E => .res_2_e
  | .c2, .H => .res_2_h
  | .c2, .L => .res_2_l
  | .c2, .A => .res_2_a
  | .c3, .B => .res_3_b
  | .c3, .C => .res_3_c
  | .c3, .D => .res_3_d
  | .c3, .E => .res_3_e
  | .c3, .H => .res_3_h
  | .c3, .L => .res_3_l
  | .c3, .A => .res_3_a
  | .c4, .B => .res_4_b
  | .c4, .C => .res_4_c
  | .c4, .D => .res_4_d
  | .c4, .E => .res_4_e
  | .c4, .H => .res_4_h
  | .c4, .L => .res_4_l
  | .c4, .A => .res_4_a
  | .c5, .B => .res_5_b
  | .c5, .C => .res_5_c
  | .c5, .D => .res_5_d
  | .c5, .E => .res_5_e
  | .c5, .H => .res_5_h
  | .c5, .L => .res_5_l
  | .c5, .A => .res_5_a
  | .c6, .B => .res_6_b
  | .c6, .C => .res_6_c
  | .c6, .D => .res_6_d
  | .c6, .E => .res_6_e
  | .c6, .H => .res_6_h
  | .c6, .L => .res_6_l
  | .c6, .A => .res_6_a
  | .c7, .B => .res_7_b
  | .c7, .C => .res_7_c
  | .c7, .D => .res_7_d
  | .c7, .E => .res_7_e
  | .c7, .H => .res_7_h
  | .c7, .L => .res_7_l
  | .c7, .A => .res_7_a

/-- The rows of R234. -/
def rowResHL : Code3 → Instr
  | .c0 => .res_0__hl
  | .c1 => .res_1__hl
  | .c2 => .res_2__hl
  | .c3 => .res_3__hl
  | .c4 => .res_4__hl
  | .c5 => .res_5__hl
  | .c6 => .res_6__hl
  | .c7 => .res_7__hl

/-- The rows of R235. -/
def rowSetR : Code3 → Reg8 → Instr
  | .c0, .B => .set_0_b
  | .c0, .C => .set_0_c
  | .c0, .D => .set_0_d
  | .c0, .E => .set_0_e
  | .c0, .H => .set_0_h
  | .c0, .L => .set_0_l
  | .c0, .A => .set_0_a
  | .c1, .B => .set_1_b
  | .c1, .C => .set_1_c
  | .c1, .D => .set_1_d
  | .c1, .E => .set_1_e
  | .c1, .H => .set_1_h
  | .c1, .L => .set_1_l
  | .c1, .A => .set_1_a
  | .c2, .B => .set_2_b
  | .c2, .C => .set_2_c
  | .c2, .D => .set_2_d
  | .c2, .E => .set_2_e
  | .c2, .H => .set_2_h
  | .c2, .L => .set_2_l
  | .c2, .A => .set_2_a
  | .c3, .B => .set_3_b
  | .c3, .C => .set_3_c
  | .c3, .D => .set_3_d
  | .c3, .E => .set_3_e
  | .c3, .H => .set_3_h
  | .c3, .L => .set_3_l
  | .c3, .A => .set_3_a
  | .c4, .B => .set_4_b
  | .c4, .C => .set_4_c
  | .c4, .D => .set_4_d
  | .c4, .E => .set_4_e
  | .c4, .H => .set_4_h
  | .c4, .L => .set_4_l
  | .c4, .A => .set_4_a
  | .c5, .B => .set_5_b
  | .c5, .C => .set_5_c
  | .c5, .D => .set_5_d
  | .c5, .E => .set_5_e
  | .c5, .H => .set_5_h
  | .c5, .L => .set_5_l
  | .c5, .A => .set_5_a
  | .c6, .B => .set_6_b
  | .c6, .C => .set_6_c
  | .c6, .D => .set_6_d
  | .c6, .E => .set_6_e
  | .c6, .H => .set_6_h
  | .c6, .L => .set_6_l
  | .c6, .A => .set_6_a
  | .c7, .B => .set_7_b
  | .c7, .C => .set_7_c
  | .c7, .D => .set_7_d
  | .c7, .E => .set_7_e
  | .c7, .H => .set_7_h
  | .c7, .L => .set_7_l
  | .c7, .A => .set_7_a

/-- The rows of R236. -/
def rowSetHL : Code3 → Instr
  | .c0 => .set_0__hl
  | .c1 => .set_1__hl
  | .c2 => .set_2__hl
  | .c3 => .set_3__hl
  | .c4 => .set_4__hl
  | .c5 => .set_5__hl
  | .c6 => .set_6__hl
  | .c7 => .set_7__hl

/-- The rows of R252. -/
def rowRst : Code3 → Instr
  | .c0 => .rst_00h
  | .c1 => .rst_08h
  | .c2 => .rst_10h
  | .c3 => .rst_18h
  | .c4 => .rst_20h
  | .c5 => .rst_28h
  | .c6 => .rst_30h
  | .c7 => .rst_38h

/-- The rows of R242. -/
def rowJpCC : Cond → Word → Instr
  | .NZ, nn => .jp_nz_nn nn
  | .Z, nn => .jp_z_nn nn
  | .NC, nn => .jp_nc_nn nn
  | .C, nn => .jp_c_nn nn

/-- The rows of R245. -/
def rowJrCC : Cond → Byte → Instr
  | .NZ, e => .jr_nz_e e
  | .Z, e => .jr_z_e e
  | .NC, e => .jr_nc_e e
  | .C, e => .jr_c_e e

/-- The rows of R247. -/
def rowCallCC : Cond → Word → Instr
  | .NZ, nn => .call_nz_nn nn
  | .Z, nn => .call_z_nn nn
  | .NC, nn => .call_nc_nn nn
  | .C, nn => .call_c_nn nn

/-- The rows of R249. -/
def rowRetCC : Cond → Instr
  | .NZ => .ret_nz
  | .Z => .ret_z
  | .NC => .ret_nc
  | .C => .ret_c

/-- The rows of R150. A pair outside the table (`Form.wellFormed` refuses it) gives the row with the same code. -/
def rowLdPairNN : Pair → Word → Instr
  | .BC, nn => .ld_bc_nn nn
  | .DE, nn => .ld_de_nn nn
  | .HL, nn => .ld_hl_nn nn
  | .SP, nn => .ld_sp_nn nn
  | .AF, nn => .ld_sp_nn nn

/-- The rows of R154. A pair outside the table (`Form.wellFormed` refuses it) gives the row with the same code. -/
def rowPush : Pair → Instr
  | .BC => .push_bc
  | .DE => .push_de
  | .HL => .push_hl
  | .AF => .push_af
  | .SP => .push_af

/-- The rows of R155. A pair outside the table (`Form.wellFormed` refuses it) gives the row with the same code. -/
def rowPop : Pair → Instr
  | .BC => .pop_bc
  | .DE => .pop_de
  | .HL => .pop_hl
  | .SP => .pop_af
  | .AF => .pop_af

/-- The rows of R200. A pair outside the table (`Form.wellFormed` refuses it) gives the row with the same code. -/
def rowAddHLPair : Pair → Instr
  | .BC => .add_hl_bc
  | .DE => .add_hl_de
  | .HL => .add_hl_hl
  | .SP => .add_hl_sp
  | .AF => .add_hl_sp

/-- The rows of R202. A pair outside the table (`Form.wellFormed` refuses it) gives the row with the same code. -/
def rowIncPair : Pair → Instr
  | .BC => .inc_bc
  | .DE => .inc_de
  | .HL => .inc_hl
  | .SP => .inc_sp
  | .AF => .inc_sp

/-- The rows of R203. A pair outside the table (`Form.wellFormed` refuses it) gives the row with the same code. -/
def rowDecPair : Pair → Instr
  | .BC => .dec_bc
  | .DE => .dec_de
  | .HL => .dec_hl
  | .SP => .dec_sp
  | .AF => .dec_sp

/-- The rows of R269, by opcode (R102). A value outside the eleven (`Form.wellFormed` refuses it) gives the last. -/
def rowUndefined (op : Byte) : Instr :=
  if op = 0xD3 then .undefined_0xd3
  else if op = 0xDB then .undefined_0xdb
  else if op = 0xDD then .undefined_0xdd
  else if op = 0xE3 then .undefined_0xe3
  else if op = 0xE4 then .undefined_0xe4
  else if op = 0xEB then .undefined_0xeb
  else if op = 0xEC then .undefined_0xec
  else if op = 0xED then .undefined_0xed
  else if op = 0xF4 then .undefined_0xf4
  else if op = 0xFC then .undefined_0xfc
  else .undefined_0xfd

/-- The table row of a form. -/
def Form.toInstr : Form → Instr
  | .ldRR d r => rowLdRR d r
  | .ldRN d n => rowLdRN d n
  | .ldRHL d => rowLdRHL d
  | .ldHLR r => rowLdHLR r
  | .ldPairNN p nn => rowLdPairNN p nn
  | .push p => rowPush p
  | .pop p => rowPop p
  | .aluR op r => rowAluR op r
  | .aluHL op => rowAluHL op
  | .aluN op n => rowAluN op n
  | .incR r => rowIncR r
  | .decR r => rowDecR r
  | .addHLPair p => rowAddHLPair p
  | .incPair p => rowIncPair p
  | .decPair p => rowDecPair p
  | .shiftR op r => rowShiftR op r
  | .shiftHL op => rowShiftHL op
  | .bitR b r => rowBitR b r
  | .bitHL b => rowBitHL b
  | .resR b r => rowResR b r
  | .resHL b => rowResHL b
  | .setR b r => rowSetR b r
  | .setHL b => rowSetHL b
  | .jpCC cc nn => rowJpCC cc nn
  | .jrCC cc e => rowJrCC cc e
  | .callCC cc nn => rowCallCC cc nn
  | .retCC cc => rowRetCC cc
  | .rst t => rowRst t
  | .undefined op => rowUndefined op
  | .ldNNSP nn => .ld__nn__sp nn
  | .jrE e => .jr_e e
  | .ldHLN n => .ld__hl__n n
  | .jpNN nn => .jp_nn nn
  | .callNN nn => .call_nn nn
  | .ldNA n => .ld__n__a n
  | .addSPE e => .add_sp_e e
  | .ldNNA nn => .ld__nn__a nn
  | .ldAN n => .ld_a__n n
  | .ldhlSPE e => .ldhl_sp_e e
  | .ldANN nn => .ld_a__nn nn
  | .nop => .nop
  | .ldBCA => .ld__bc__a
  | .rlca => .rlca
  | .ldABC => .ld_a__bc
  | .rrca => .rrca
  | .stop => .stop
  | .ldDEA => .ld__de__a
  | .rla => .rla
  | .ldADE => .ld_a__de
  | .rra => .rra
  | .ldHLIA => .ld__hli__a
  | .daa => .daa
  | .ldAHLI => .ld_a__hli
  | .cpl => .cpl
  | .ldHLDA => .ld__hld__a
  | .incHL => .inc__hl
  | .decHL => .dec__hl
  | .scf => .scf
  | .ldAHLD => .ld_a__hld
  | .ccf => .ccf
  | .halt => .halt
  | .ret => .ret
  | .reti => .reti
  | .ldCA => .ld__c__a
  | .jpHL => .jp__hl
  | .popAF => .pop_af
  | .ldAC => .ld_a__c
  | .di => .di
  | .ldSPHL => .ld_sp_hl
  | .ei => .ei

/-- The form of a table row, read from the row's `source_mnemonic`. -/
def Instr.form : Instr → Form
  | .ld_bc_nn nn => .ldPairNN .BC nn
  | .ld_b_n n => .ldRN .B n
  | .ld__nn__sp nn => .ldNNSP nn
  | .ld_c_n n => .ldRN .C n
  | .ld_de_nn nn => .ldPairNN .DE nn
  | .ld_d_n n => .ldRN .D n
  | .jr_e e => .jrE e
  | .ld_e_n n => .ldRN .E n
  | .jr_nz_e e => .jrCC .NZ e
  | .ld_hl_nn nn => .ldPairNN .HL nn
  | .ld_h_n n => .ldRN .H n
  | .jr_z_e e => .jrCC .Z e
  | .ld_l_n n => .ldRN .L n
  | .jr_nc_e e => .jrCC .NC e
  | .ld_sp_nn nn => .ldPairNN .SP nn
  | .ld__hl__n n => .ldHLN n
  | .jr_c_e e => .jrCC .C e
  | .ld_a_n n => .ldRN .A n
  | .jp_nz_nn nn => .jpCC .NZ nn
  | .jp_nn nn => .jpNN nn
  | .call_nz_nn nn => .callCC .NZ nn
  | .add_a_n n => .aluN .add n
  | .jp_z_nn nn => .jpCC .Z nn
  | .call_z_nn nn => .callCC .Z nn
  | .call_nn nn => .callNN nn
  | .adc_a_n n => .aluN .adc n
  | .jp_nc_nn nn => .jpCC .NC nn
  | .call_nc_nn nn => .callCC .NC nn
  | .sub_n n => .aluN .sub n
  | .jp_c_nn nn => .jpCC .C nn
  | .call_c_nn nn => .callCC .C nn
  | .sbc_a_n n => .aluN .sbc n
  | .ld__n__a n => .ldNA n
  | .and_n n => .aluN .and n
  | .add_sp_e e => .addSPE e
  | .ld__nn__a nn => .ldNNA nn
  | .xor_n n => .aluN .xor n
  | .ld_a__n n => .ldAN n
  | .or_n n => .aluN .or n
  | .ldhl_sp_e e => .ldhlSPE e
  | .ld_a__nn nn => .ldANN nn
  | .cp_n n => .aluN .cp n
  | .nop => .nop
  | .ld__bc__a => .ldBCA
  | .inc_bc => .incPair .BC
  | .inc_b => .incR .B
  | .dec_b => .decR .B
  | .rlca => .rlca
  | .add_hl_bc => .addHLPair .BC
  | .ld_a__bc => .ldABC
  | .dec_bc => .decPair .BC
  | .inc_c => .incR .C
  | .dec_c => .decR .C
  | .rrca => .rrca
  | .stop => .stop
  | .ld__de__a => .ldDEA
  | .inc_de => .incPair .DE
  | .inc_d => .incR .D
  | .dec_d => .decR .D
  | .rla => .rla
  | .add_hl_de => .addHLPair .DE
  | .ld_a__de => .ldADE
  | .dec_de => .decPair .DE
  | .inc_e => .incR .E
  | .dec_e => .decR .E
  | .rra => .rra
  | .ld__hli__a => .ldHLIA
  | .inc_hl => .incPair .HL
  | .inc_h => .incR .H
  | .dec_h => .decR .H
  | .daa => .daa
  | .add_hl_hl => .addHLPair .HL
  | .ld_a__hli => .ldAHLI
  | .dec_hl => .decPair .HL
  | .inc_l => .incR .L
  | .dec_l => .decR .L
  | .cpl => .cpl
  | .ld__hld__a => .ldHLDA
  | .inc_sp => .incPair .SP
  | .inc__hl => .incHL
  | .dec__hl => .decHL
  | .scf => .scf
  | .add_hl_sp => .addHLPair .SP
  | .ld_a__hld => .ldAHLD
  | .dec_sp => .decPair .SP
  | .inc_a => .incR .A
  | .dec_a => .decR .A
  | .ccf => .ccf
  | .ld_b_b => .ldRR .B .B
  | .ld_b_c => .ldRR .B .C
  | .ld_b_d => .ldRR .B .D
  | .ld_b_e => .ldRR .B .E
  | .ld_b_h => .ldRR .B .H
  | .ld_b_l => .ldRR .B .L
  | .ld_b__hl => .ldRHL .B
  | .ld_b_a => .ldRR .B .A
  | .ld_c_b => .ldRR .C .B
  | .ld_c_c => .ldRR .C .C
  | .ld_c_d => .ldRR .C .D
  | .ld_c_e => .ldRR .C .E
  | .ld_c_h => .ldRR .C .H
  | .ld_c_l => .ldRR .C .L
  | .ld_c__hl => .ldRHL .C
  | .ld_c_a => .ldRR .C .A
  | .ld_d_b => .ldRR .D .B
  | .ld_d_c => .ldRR .D .C
  | .ld_d_d => .ldRR .D .D
  | .ld_d_e => .ldRR .D .E
  | .ld_d_h => .ldRR .D .H
  | .ld_d_l => .ldRR .D .L
  | .ld_d__hl => .ldRHL .D
  | .ld_d_a => .ldRR .D .A
  | .ld_e_b => .ldRR .E .B
  | .ld_e_c => .ldRR .E .C
  | .ld_e_d => .ldRR .E .D
  | .ld_e_e => .ldRR .E .E
  | .ld_e_h => .ldRR .E .H
  | .ld_e_l => .ldRR .E .L
  | .ld_e__hl => .ldRHL .E
  | .ld_e_a => .ldRR .E .A
  | .ld_h_b => .ldRR .H .B
  | .ld_h_c => .ldRR .H .C
  | .ld_h_d => .ldRR .H .D
  | .ld_h_e => .ldRR .H .E
  | .ld_h_h => .ldRR .H .H
  | .ld_h_l => .ldRR .H .L
  | .ld_h__hl => .ldRHL .H
  | .ld_h_a => .ldRR .H .A
  | .ld_l_b => .ldRR .L .B
  | .ld_l_c => .ldRR .L .C
  | .ld_l_d => .ldRR .L .D
  | .ld_l_e => .ldRR .L .E
  | .ld_l_h => .ldRR .L .H
  | .ld_l_l => .ldRR .L .L
  | .ld_l__hl => .ldRHL .L
  | .ld_l_a => .ldRR .L .A
  | .ld__hl__b => .ldHLR .B
  | .ld__hl__c => .ldHLR .C
  | .ld__hl__d => .ldHLR .D
  | .ld__hl__e => .ldHLR .E
  | .ld__hl__h => .ldHLR .H
  | .ld__hl__l => .ldHLR .L
  | .halt => .halt
  | .ld__hl__a => .ldHLR .A
  | .ld_a_b => .ldRR .A .B
  | .ld_a_c => .ldRR .A .C
  | .ld_a_d => .ldRR .A .D
  | .ld_a_e => .ldRR .A .E
  | .ld_a_h => .ldRR .A .H
  | .ld_a_l => .ldRR .A .L
  | .ld_a__hl => .ldRHL .A
  | .ld_a_a => .ldRR .A .A
  | .add_a_b => .aluR .add .B
  | .add_a_c => .aluR .add .C
  | .add_a_d => .aluR .add .D
  | .add_a_e => .aluR .add .E
  | .add_a_h => .aluR .add .H
  | .add_a_l => .aluR .add .L
  | .add_a__hl => .aluHL .add
  | .add_a_a => .aluR .add .A
  | .adc_a_b => .aluR .adc .B
  | .adc_a_c => .aluR .adc .C
  | .adc_a_d => .aluR .adc .D
  | .adc_a_e => .aluR .adc .E
  | .adc_a_h => .aluR .adc .H
  | .adc_a_l => .aluR .adc .L
  | .adc_a__hl => .aluHL .adc
  | .adc_a_a => .aluR .adc .A
  | .sub_b => .aluR .sub .B
  | .sub_c => .aluR .sub .C
  | .sub_d => .aluR .sub .D
  | .sub_e => .aluR .sub .E
  | .sub_h => .aluR .sub .H
  | .sub_l => .aluR .sub .L
  | .sub__hl => .aluHL .sub
  | .sub_a => .aluR .sub .A
  | .sbc_a_b => .aluR .sbc .B
  | .sbc_a_c => .aluR .sbc .C
  | .sbc_a_d => .aluR .sbc .D
  | .sbc_a_e => .aluR .sbc .E
  | .sbc_a_h => .aluR .sbc .H
  | .sbc_a_l => .aluR .sbc .L
  | .sbc_a__hl => .aluHL .sbc
  | .sbc_a_a => .aluR .sbc .A
  | .and_b => .aluR .and .B
  | .and_c => .aluR .and .C
  | .and_d => .aluR .and .D
  | .and_e => .aluR .and .E
  | .and_h => .aluR .and .H
  | .and_l => .aluR .and .L
  | .and__hl => .aluHL .and
  | .and_a => .aluR .and .A
  | .xor_b => .aluR .xor .B
  | .xor_c => .aluR .xor .C
  | .xor_d => .aluR .xor .D
  | .xor_e => .aluR .xor .E
  | .xor_h => .aluR .xor .H
  | .xor_l => .aluR .xor .L
  | .xor__hl => .aluHL .xor
  | .xor_a => .aluR .xor .A
  | .or_b => .aluR .or .B
  | .or_c => .aluR .or .C
  | .or_d => .aluR .or .D
  | .or_e => .aluR .or .E
  | .or_h => .aluR .or .H
  | .or_l => .aluR .or .L
  | .or__hl => .aluHL .or
  | .or_a => .aluR .or .A
  | .cp_b => .aluR .cp .B
  | .cp_c => .aluR .cp .C
  | .cp_d => .aluR .cp .D
  | .cp_e => .aluR .cp .E
  | .cp_h => .aluR .cp .H
  | .cp_l => .aluR .cp .L
  | .cp__hl => .aluHL .cp
  | .cp_a => .aluR .cp .A
  | .ret_nz => .retCC .NZ
  | .pop_bc => .pop .BC
  | .push_bc => .push .BC
  | .rst_00h => .rst .c0
  | .ret_z => .retCC .Z
  | .ret => .ret
  | .rst_08h => .rst .c1
  | .ret_nc => .retCC .NC
  | .pop_de => .pop .DE
  | .undefined_0xd3 => .undefined 0xD3
  | .push_de => .push .DE
  | .rst_10h => .rst .c2
  | .ret_c => .retCC .C
  | .reti => .reti
  | .undefined_0xdb => .undefined 0xDB
  | .undefined_0xdd => .undefined 0xDD
  | .rst_18h => .rst .c3
  | .pop_hl => .pop .HL
  | .ld__c__a => .ldCA
  | .undefined_0xe3 => .undefined 0xE3
  | .undefined_0xe4 => .undefined 0xE4
  | .push_hl => .push .HL
  | .rst_20h => .rst .c4
  | .jp__hl => .jpHL
  | .undefined_0xeb => .undefined 0xEB
  | .undefined_0xec => .undefined 0xEC
  | .undefined_0xed => .undefined 0xED
  | .rst_28h => .rst .c5
  | .pop_af => .popAF
  | .ld_a__c => .ldAC
  | .di => .di
  | .undefined_0xf4 => .undefined 0xF4
  | .push_af => .push .AF
  | .rst_30h => .rst .c6
  | .ld_sp_hl => .ldSPHL
  | .ei => .ei
  | .undefined_0xfc => .undefined 0xFC
  | .undefined_0xfd => .undefined 0xFD
  | .rst_38h => .rst .c7
  | .rlc_b => .shiftR .rlc .B
  | .rlc_c => .shiftR .rlc .C
  | .rlc_d => .shiftR .rlc .D
  | .rlc_e => .shiftR .rlc .E
  | .rlc_h => .shiftR .rlc .H
  | .rlc_l => .shiftR .rlc .L
  | .rlc__hl => .shiftHL .rlc
  | .rlc_a => .shiftR .rlc .A
  | .rrc_b => .shiftR .rrc .B
  | .rrc_c => .shiftR .rrc .C
  | .rrc_d => .shiftR .rrc .D
  | .rrc_e => .shiftR .rrc .E
  | .rrc_h => .shiftR .rrc .H
  | .rrc_l => .shiftR .rrc .L
  | .rrc__hl => .shiftHL .rrc
  | .rrc_a => .shiftR .rrc .A
  | .rl_b => .shiftR .rl .B
  | .rl_c => .shiftR .rl .C
  | .rl_d => .shiftR .rl .D
  | .rl_e => .shiftR .rl .E
  | .rl_h => .shiftR .rl .H
  | .rl_l => .shiftR .rl .L
  | .rl__hl => .shiftHL .rl
  | .rl_a => .shiftR .rl .A
  | .rr_b => .shiftR .rr .B
  | .rr_c => .shiftR .rr .C
  | .rr_d => .shiftR .rr .D
  | .rr_e => .shiftR .rr .E
  | .rr_h => .shiftR .rr .H
  | .rr_l => .shiftR .rr .L
  | .rr__hl => .shiftHL .rr
  | .rr_a => .shiftR .rr .A
  | .sla_b => .shiftR .sla .B
  | .sla_c => .shiftR .sla .C
  | .sla_d => .shiftR .sla .D
  | .sla_e => .shiftR .sla .E
  | .sla_h => .shiftR .sla .H
  | .sla_l => .shiftR .sla .L
  | .sla__hl => .shiftHL .sla
  | .sla_a => .shiftR .sla .A
  | .sra_b => .shiftR .sra .B
  | .sra_c => .shiftR .sra .C
  | .sra_d => .shiftR .sra .D
  | .sra_e => .shiftR .sra .E
  | .sra_h => .shiftR .sra .H
  | .sra_l => .shiftR .sra .L
  | .sra__hl => .shiftHL .sra
  | .sra_a => .shiftR .sra .A
  | .swap_b => .shiftR .swap .B
  | .swap_c => .shiftR .swap .C
  | .swap_d => .shiftR .swap .D
  | .swap_e => .shiftR .swap .E
  | .swap_h => .shiftR .swap .H
  | .swap_l => .shiftR .swap .L
  | .swap__hl => .shiftHL .swap
  | .swap_a => .shiftR .swap .A
  | .srl_b => .shiftR .srl .B
  | .srl_c => .shiftR .srl .C
  | .srl_d => .shiftR .srl .D
  | .srl_e => .shiftR .srl .E
  | .srl_h => .shiftR .srl .H
  | .srl_l => .shiftR .srl .L
  | .srl__hl => .shiftHL .srl
  | .srl_a => .shiftR .srl .A
  | .bit_0_b => .bitR .c0 .B
  | .bit_0_c => .bitR .c0 .C
  | .bit_0_d => .bitR .c0 .D
  | .bit_0_e => .bitR .c0 .E
  | .bit_0_h => .bitR .c0 .H
  | .bit_0_l => .bitR .c0 .L
  | .bit_0__hl => .bitHL .c0
  | .bit_0_a => .bitR .c0 .A
  | .bit_1_b => .bitR .c1 .B
  | .bit_1_c => .bitR .c1 .C
  | .bit_1_d => .bitR .c1 .D
  | .bit_1_e => .bitR .c1 .E
  | .bit_1_h => .bitR .c1 .H
  | .bit_1_l => .bitR .c1 .L
  | .bit_1__hl => .bitHL .c1
  | .bit_1_a => .bitR .c1 .A
  | .bit_2_b => .bitR .c2 .B
  | .bit_2_c => .bitR .c2 .C
  | .bit_2_d => .bitR .c2 .D
  | .bit_2_e => .bitR .c2 .E
  | .bit_2_h => .bitR .c2 .H
  | .bit_2_l => .bitR .c2 .L
  | .bit_2__hl => .bitHL .c2
  | .bit_2_a => .bitR .c2 .A
  | .bit_3_b => .bitR .c3 .B
  | .bit_3_c => .bitR .c3 .C
  | .bit_3_d => .bitR .c3 .D
  | .bit_3_e => .bitR .c3 .E
  | .bit_3_h => .bitR .c3 .H
  | .bit_3_l => .bitR .c3 .L
  | .bit_3__hl => .bitHL .c3
  | .bit_3_a => .bitR .c3 .A
  | .bit_4_b => .bitR .c4 .B
  | .bit_4_c => .bitR .c4 .C
  | .bit_4_d => .bitR .c4 .D
  | .bit_4_e => .bitR .c4 .E
  | .bit_4_h => .bitR .c4 .H
  | .bit_4_l => .bitR .c4 .L
  | .bit_4__hl => .bitHL .c4
  | .bit_4_a => .bitR .c4 .A
  | .bit_5_b => .bitR .c5 .B
  | .bit_5_c => .bitR .c5 .C
  | .bit_5_d => .bitR .c5 .D
  | .bit_5_e => .bitR .c5 .E
  | .bit_5_h => .bitR .c5 .H
  | .bit_5_l => .bitR .c5 .L
  | .bit_5__hl => .bitHL .c5
  | .bit_5_a => .bitR .c5 .A
  | .bit_6_b => .bitR .c6 .B
  | .bit_6_c => .bitR .c6 .C
  | .bit_6_d => .bitR .c6 .D
  | .bit_6_e => .bitR .c6 .E
  | .bit_6_h => .bitR .c6 .H
  | .bit_6_l => .bitR .c6 .L
  | .bit_6__hl => .bitHL .c6
  | .bit_6_a => .bitR .c6 .A
  | .bit_7_b => .bitR .c7 .B
  | .bit_7_c => .bitR .c7 .C
  | .bit_7_d => .bitR .c7 .D
  | .bit_7_e => .bitR .c7 .E
  | .bit_7_h => .bitR .c7 .H
  | .bit_7_l => .bitR .c7 .L
  | .bit_7__hl => .bitHL .c7
  | .bit_7_a => .bitR .c7 .A
  | .res_0_b => .resR .c0 .B
  | .res_0_c => .resR .c0 .C
  | .res_0_d => .resR .c0 .D
  | .res_0_e => .resR .c0 .E
  | .res_0_h => .resR .c0 .H
  | .res_0_l => .resR .c0 .L
  | .res_0__hl => .resHL .c0
  | .res_0_a => .resR .c0 .A
  | .res_1_b => .resR .c1 .B
  | .res_1_c => .resR .c1 .C
  | .res_1_d => .resR .c1 .D
  | .res_1_e => .resR .c1 .E
  | .res_1_h => .resR .c1 .H
  | .res_1_l => .resR .c1 .L
  | .res_1__hl => .resHL .c1
  | .res_1_a => .resR .c1 .A
  | .res_2_b => .resR .c2 .B
  | .res_2_c => .resR .c2 .C
  | .res_2_d => .resR .c2 .D
  | .res_2_e => .resR .c2 .E
  | .res_2_h => .resR .c2 .H
  | .res_2_l => .resR .c2 .L
  | .res_2__hl => .resHL .c2
  | .res_2_a => .resR .c2 .A
  | .res_3_b => .resR .c3 .B
  | .res_3_c => .resR .c3 .C
  | .res_3_d => .resR .c3 .D
  | .res_3_e => .resR .c3 .E
  | .res_3_h => .resR .c3 .H
  | .res_3_l => .resR .c3 .L
  | .res_3__hl => .resHL .c3
  | .res_3_a => .resR .c3 .A
  | .res_4_b => .resR .c4 .B
  | .res_4_c => .resR .c4 .C
  | .res_4_d => .resR .c4 .D
  | .res_4_e => .resR .c4 .E
  | .res_4_h => .resR .c4 .H
  | .res_4_l => .resR .c4 .L
  | .res_4__hl => .resHL .c4
  | .res_4_a => .resR .c4 .A
  | .res_5_b => .resR .c5 .B
  | .res_5_c => .resR .c5 .C
  | .res_5_d => .resR .c5 .D
  | .res_5_e => .resR .c5 .E
  | .res_5_h => .resR .c5 .H
  | .res_5_l => .resR .c5 .L
  | .res_5__hl => .resHL .c5
  | .res_5_a => .resR .c5 .A
  | .res_6_b => .resR .c6 .B
  | .res_6_c => .resR .c6 .C
  | .res_6_d => .resR .c6 .D
  | .res_6_e => .resR .c6 .E
  | .res_6_h => .resR .c6 .H
  | .res_6_l => .resR .c6 .L
  | .res_6__hl => .resHL .c6
  | .res_6_a => .resR .c6 .A
  | .res_7_b => .resR .c7 .B
  | .res_7_c => .resR .c7 .C
  | .res_7_d => .resR .c7 .D
  | .res_7_e => .resR .c7 .E
  | .res_7_h => .resR .c7 .H
  | .res_7_l => .resR .c7 .L
  | .res_7__hl => .resHL .c7
  | .res_7_a => .resR .c7 .A
  | .set_0_b => .setR .c0 .B
  | .set_0_c => .setR .c0 .C
  | .set_0_d => .setR .c0 .D
  | .set_0_e => .setR .c0 .E
  | .set_0_h => .setR .c0 .H
  | .set_0_l => .setR .c0 .L
  | .set_0__hl => .setHL .c0
  | .set_0_a => .setR .c0 .A
  | .set_1_b => .setR .c1 .B
  | .set_1_c => .setR .c1 .C
  | .set_1_d => .setR .c1 .D
  | .set_1_e => .setR .c1 .E
  | .set_1_h => .setR .c1 .H
  | .set_1_l => .setR .c1 .L
  | .set_1__hl => .setHL .c1
  | .set_1_a => .setR .c1 .A
  | .set_2_b => .setR .c2 .B
  | .set_2_c => .setR .c2 .C
  | .set_2_d => .setR .c2 .D
  | .set_2_e => .setR .c2 .E
  | .set_2_h => .setR .c2 .H
  | .set_2_l => .setR .c2 .L
  | .set_2__hl => .setHL .c2
  | .set_2_a => .setR .c2 .A
  | .set_3_b => .setR .c3 .B
  | .set_3_c => .setR .c3 .C
  | .set_3_d => .setR .c3 .D
  | .set_3_e => .setR .c3 .E
  | .set_3_h => .setR .c3 .H
  | .set_3_l => .setR .c3 .L
  | .set_3__hl => .setHL .c3
  | .set_3_a => .setR .c3 .A
  | .set_4_b => .setR .c4 .B
  | .set_4_c => .setR .c4 .C
  | .set_4_d => .setR .c4 .D
  | .set_4_e => .setR .c4 .E
  | .set_4_h => .setR .c4 .H
  | .set_4_l => .setR .c4 .L
  | .set_4__hl => .setHL .c4
  | .set_4_a => .setR .c4 .A
  | .set_5_b => .setR .c5 .B
  | .set_5_c => .setR .c5 .C
  | .set_5_d => .setR .c5 .D
  | .set_5_e => .setR .c5 .E
  | .set_5_h => .setR .c5 .H
  | .set_5_l => .setR .c5 .L
  | .set_5__hl => .setHL .c5
  | .set_5_a => .setR .c5 .A
  | .set_6_b => .setR .c6 .B
  | .set_6_c => .setR .c6 .C
  | .set_6_d => .setR .c6 .D
  | .set_6_e => .setR .c6 .E
  | .set_6_h => .setR .c6 .H
  | .set_6_l => .setR .c6 .L
  | .set_6__hl => .setHL .c6
  | .set_6_a => .setR .c6 .A
  | .set_7_b => .setR .c7 .B
  | .set_7_c => .setR .c7 .C
  | .set_7_d => .setR .c7 .D
  | .set_7_e => .setR .c7 .E
  | .set_7_h => .setR .c7 .H
  | .set_7_l => .setR .c7 .L
  | .set_7__hl => .setHL .c7
  | .set_7_a => .setR .c7 .A

/-! ### The decoder -/

/-- The instruction whose first bytes are `b0`, `b1`, `b2` (R104): total, on any bytes. -/
def decodeBytes (b0 b1 b2 : Byte) : Instr := (formOfBytes b0 b1 b2).toInstr

/-- The bytes of an instruction that are fetched on the bus, given its first byte (R90, R91): the padding byte of
STOP is not read (R107). -/
def Form.fetchedLength : Form → Nat
  | .ldRN _ _ | .ldHLN _ | .ldAN _ | .ldNA _ | .aluN _ _ | .ldhlSPE _ | .addSPE _ | .jrE _ | .jrCC _ _ => 2
  | .ldANN _ | .ldNNA _ | .ldPairNN _ _ | .ldNNSP _ | .jpNN _ | .jpCC _ _ | .callNN _ | .callCC _ _ => 3
  | .shiftR _ _ | .shiftHL _ | .bitR _ _ | .bitHL _ | .resR _ _ | .resHL _ | .setR _ _ | .setHL _ => 2
  | .ldRR _ _ | .ldRHL _ | .ldHLR _ | .ldABC | .ldADE | .ldBCA | .ldDEA | .ldAC | .ldCA | .ldAHLI | .ldAHLD
  | .ldHLIA | .ldHLDA | .ldSPHL | .push _ | .pop _ | .popAF => 1
  | .aluR _ _ | .aluHL _ | .incR _ | .incHL | .decR _ | .decHL | .addHLPair _ | .incPair _ | .decPair _ => 1
  | .rlca | .rla | .rrca | .rra | .jpHL | .ret | .retCC _ | .reti | .rst _ => 1
  | .nop | .daa | .cpl | .ccf | .scf | .di | .ei | .halt | .stop | .undefined _ => 1

/-- An instruction's length in bytes (R90): the fetched bytes, and the padding byte of STOP (R107). -/
def Form.length : Form → Nat
  | .stop => 2
  | f => f.fetchedLength

/-- How many bytes are fetched for an instruction whose first byte is `b0`: "the first byte alone fixes the length
of every instruction" (R90). -/
def fetchCount (b0 : Byte) : Nat := (formOfBytes b0 0 0).fetchedLength

/-- Why a list of bytes is not an instruction. -/
inductive DecodeError where
  /-- The list ends before the instruction's last byte. -/
  | truncated
  deriving DecidableEq, Repr

/-- The instruction at the head of a list of bytes, and the bytes after it. -/
def decode : List Byte → Except DecodeError (Instr × List Byte)
  | [] => .error .truncated
  | b0 :: rest =>
    match (formOfBytes b0 0 0).length, rest with
    | 1, _ => .ok (decodeBytes b0 0 0, rest)
    | 2, b1 :: rest2 => .ok (decodeBytes b0 b1 0, rest2)
    | 3, b1 :: b2 :: rest3 => .ok (decodeBytes b0 b1 b2, rest3)
    | _, _ => .error .truncated

/-- The instruction the decoder reads from the bits of `w`, bit 0 the least significant bit of the first byte. The
bits above `nbits` are 0. -/
def decodeTableWord (nbits w : Nat) : Option Instr :=
  let v := w % 2 ^ nbits
  match decode [BitVec.ofNat 8 v, BitVec.ofNat 8 (v / 256), BitVec.ofNat 8 (v / 65536)] with
  | .ok (i, _) => some i
  | .error _ => none

/-! ### The encoder -/

/-- The opcode byte with fields x, y, z: `x*64 + y*8 + z` (R99, R101). -/
def opByte (x y z : Nat) : Byte := BitVec.ofNat 8 (64 * x + 8 * y + z)

/-- The two immediate bytes of `nn`, low byte first (R98). -/
def immediate16 (nn : Word) : List Byte := [loByte nn, hiByte nn]

/-- The bytes of a well-formed form, from the `Encoding` line of its rule. STOP's padding byte is written as the
conventional 0x00 (R107; log 14). -/
def Form.encode : Form → List Byte
  | .ldRR d r => [opByte 1 d.code r.code]
  | .ldRN d n => [opByte 0 d.code 6, n]
  | .ldRHL d => [opByte 1 d.code codeHL]
  | .ldHLR r => [opByte 1 codeHL r.code]
  | .ldHLN n => [0x36, n]
  | .ldABC => [0x0A]
  | .ldADE => [0x1A]
  | .ldBCA => [0x02]
  | .ldDEA => [0x12]
  | .ldANN nn => 0xFA :: immediate16 nn
  | .ldNNA nn => 0xEA :: immediate16 nn
  | .ldAC => [0xF2]
  | .ldCA => [0xE2]
  | .ldAN n => [0xF0, n]
  | .ldNA n => [0xE0, n]
  | .ldAHLI => [0x2A]
  | .ldAHLD => [0x3A]
  | .ldHLIA => [0x22]
  | .ldHLDA => [0x32]
  | .ldPairNN p nn => opByte 0 (2 * p.code) 1 :: immediate16 nn
  | .ldSPHL => [0xF9]
  | .ldNNSP nn => 0x08 :: immediate16 nn
  | .ldhlSPE e => [0xF8, e]
  | .push p => [opByte 3 (2 * p.code) 5]
  | .pop p => [opByte 3 (2 * p.code) 1]
  | .popAF => [0xF1]
  | .aluR op r => [opByte 2 op.code r.code]
  | .aluHL op => [opByte 2 op.code codeHL]
  | .aluN op n => [opByte 3 op.code 6, n]
  | .incR r => [opByte 0 r.code 4]
  | .incHL => [0x34]
  | .decR r => [opByte 0 r.code 5]
  | .decHL => [0x35]
  | .addHLPair p => [opByte 0 (2 * p.code + 1) 1]
  | .addSPE e => [0xE8, e]
  | .incPair p => [opByte 0 (2 * p.code) 3]
  | .decPair p => [opByte 0 (2 * p.code + 1) 3]
  | .rlca => [0x07]
  | .rla => [0x17]
  | .rrca => [0x0F]
  | .rra => [0x1F]
  | .shiftR op r => [escapeOpcode, opByte 0 op.code r.code]
  | .shiftHL op => [escapeOpcode, opByte 0 op.code codeHL]
  | .bitR b r => [escapeOpcode, opByte 1 b.val r.code]
  | .bitHL b => [escapeOpcode, opByte 1 b.val codeHL]
  | .resR b r => [escapeOpcode, opByte 2 b.val r.code]
  | .resHL b => [escapeOpcode, opByte 2 b.val codeHL]
  | .setR b r => [escapeOpcode, opByte 3 b.val r.code]
  | .setHL b => [escapeOpcode, opByte 3 b.val codeHL]
  | .jpNN nn => 0xC3 :: immediate16 nn
  | .jpCC cc nn => opByte 3 cc.code 2 :: immediate16 nn
  | .jpHL => [0xE9]
  | .jrE e => [0x18, e]
  | .jrCC cc e => [opByte 0 (4 + cc.code) 0, e]
  | .callNN nn => 0xCD :: immediate16 nn
  | .callCC cc nn => opByte 3 cc.code 4 :: immediate16 nn
  | .ret => [0xC9]
  | .retCC cc => [opByte 3 cc.code 0]
  | .reti => [0xD9]
  | .rst t => [opByte 3 t.val 7]
  | .nop => [0x00]
  | .daa => [0x27]
  | .cpl => [0x2F]
  | .ccf => [0x3F]
  | .scf => [0x37]
  | .di => [0xF3]
  | .ei => [0xFB]
  | .halt => [0x76]
  | .stop => [0x10, 0x00]
  | .undefined op => [op]

/-- The bytes of an instruction, in fetch order. -/
def encode (i : Instr) : List Byte := i.form.encode

end Sys2Proof
end

