-- ==== Sys2Proof/Config.lean ====
section
/-! DEFINITION. What stays fixed for the machine: the defaults of the parameters R9 of spec/00_scope.md leaves
open, and the free values of the model. The parameters that a launch may choose are fields of `State.params`. -/

namespace Sys2Proof

/-- The byte that the `k`-th read of the sound range 0xFF10-0xFF3F returns. R69 (20_memory.md): a read of the
stub "returns an unspecified byte"; nothing constrains it. DESIGN CHOICE, log 8. -/
opaque Config.soundStubRead : Nat → BitVec 8

/-- An access handed to a cartridge agent (R66): the bus address unchanged, with the byte answered or written. -/
inductive CartAccess where
  | read (a : Word) (answer : Byte)
  | write (a : Word) (v : Byte)
  deriving DecidableEq, Repr

/-- The byte that a cartridge agent answers to a read of an address after the accesses it has been handed, newest first.
R66 (20_memory.md) makes `CART` an external agent with `read` and `write`, and R9 leaves it open; nothing constrains
it. DESIGN CHOICE, log 3. -/
opaque Config.cartridgeRead : List CartAccess → Word → Byte

/-- The default of `DMA_STALL_MCYCLES` (R9, R377): M-cycles charged by an OAM DMA write. Log 7. -/
def Config.defaultDmaStall : Nat := 160

/-- What a byte nobody has written reads as. The spec leaves `RAM_INIT` and the image unspecified (R9, R40);
0x00 is the model's DESIGN CHOICE, log 2. -/
def Config.blankByte : Byte := 0x00

end Sys2Proof
end

