-- ==== Sys2Proof/Machine/Memory.lean ====
section
/-! DEFINITION. Storage as a list of (address, byte) pairs in one canonical form: addresses strictly rising, no entry
equal to what an unlisted address reads as. It holds the byte arrays of R38 (10_state.md) and the frame buffer of
R376. A write removes every entry of its address before it places the new one, so that the read-over-write laws hold
of every list, canonical or not. -/

namespace Sys2Proof.Machine

/-- Bytes by address. -/
abbrev Memory := List Host.Cell

/-- The byte at `k`; an unlisted address reads `Config.blankByte` (log 2). -/
def Memory.read : Memory → Nat → Byte
  | [], _ => Config.blankByte
  | (a, v) :: m, k => if a = k then v else Memory.read m k

/-- `m` without any entry at `k`. -/
def Memory.erase : Memory → Nat → Memory
  | [], _ => []
  | (a, v) :: m, k => if a = k then Memory.erase m k else (a, v) :: Memory.erase m k

/-- `m` with an entry placed before the first higher address. -/
def Memory.place : Memory → Nat → Byte → Memory
  | [], k, w => [(k, w)]
  | (a, v) :: m, k, w => if k < a then (k, w) :: (a, v) :: m else (a, v) :: Memory.place m k w

/-- `m` with the byte at `k` set to `w`. -/
def Memory.write (m : Memory) (k : Nat) (w : Byte) : Memory :=
  if w = Config.blankByte then Memory.erase m k else Memory.place (Memory.erase m k) k w

/-- The canonical form: every entry differs from the blank byte and every later address is higher. -/
def Memory.wf : Memory → Bool
  | [] => true
  | (a, v) :: m => v != Config.blankByte && m.all (fun c => decide (a < c.1)) && Memory.wf m

/-- The bytes `bs` stored at `k`, `k + 1`, … -/
def Memory.writeList : Memory → Nat → List Byte → Memory
  | m, _, [] => m
  | m, k, b :: bs => Memory.writeList (m.write k b) (k + 1) bs

end Sys2Proof.Machine
end

