-- ==== Sys2Proof/Machine/Interconnect.lean ====
section
/-! DEFINITION. The interconnect table (R54 to R60, R62 of spec/20_memory.md): which component serves each of the
65536 addresses. The table is held as its runs of equal entries, in address order (log 10), so that equal tables are
equal lists; `SlotTable.slot` reads one entry and `SlotTable.bind` rebinds an inclusive range. -/

namespace Sys2Proof.Machine

/-- Which accesses fire a triggered mapping (R59). -/
inductive TriggerType where
  | read | write | both
  deriving DecidableEq, Repr

/-- The components that slots are bound to (R62). -/
inductive Handler where
  /-- Reads 0xFF, writes dropped (R55, R70). -/
  | unmapped
  /-- R63 -/
  | bootRom
  /-- R64, R66 -/
  | cartridge
  /-- R65 -/
  | videoRam
  /-- Work RAM and its mirror (R67). -/
  | workRam
  /-- R68 -/
  | oam
  /-- 0xFEA0-0xFEFF (R68). -/
  | unusable
  /-- R385 -/
  | input
  /-- R356, R357 -/
  | serial
  /-- R346 to R349 -/
  | timer
  /-- IF and IE (R340, R341). -/
  | interruptController
  /-- R69 -/
  | sound
  /-- R366 to R377 -/
  | videoRegisters
  /-- R71 -/
  | highRam
  /-- A triggered mapping (R59) whose action is `rebind_from(first, last, source)` (R58). -/
  | triggered (kind : TriggerType) (first last source : Word)
  deriving DecidableEq, Repr

/-- The table as runs: a pair is the last address of a run and the handler of the run, which begins after the run
before it. -/
abbrev SlotTable := List (Nat × Handler)

/-- The entry of one address (R54); past the runs, the unmapped handler (R55). -/
def SlotTable.slot : SlotTable → Nat → Handler
  | [], _ => .unmapped
  | (last, h) :: t, a => if a ≤ last then h else SlotTable.slot t a

/-- The runs below `lo`, of a table whose first run begins at `start`. -/
def SlotTable.below : SlotTable → Nat → Nat → SlotTable
  | [], _, _ => []
  | (last, h) :: t, start, lo =>
    if last < lo then (last, h) :: SlotTable.below t (last + 1) lo
    else if start < lo then [(lo - 1, h)] else []

/-- The runs above `hi`. -/
def SlotTable.above : SlotTable → Nat → SlotTable
  | [], _ => []
  | (last, h) :: t, hi => if last ≤ hi then SlotTable.above t hi else (last, h) :: t

/-- Adjacent runs of one handler joined. -/
def SlotTable.join : SlotTable → SlotTable
  | [] => []
  | (last, h) :: t =>
    match SlotTable.join t with
    | [] => [(last, h)]
    | (last2, h2) :: t2 => if h = h2 then (last2, h2) :: t2 else (last, h) :: (last2, h2) :: t2

/-- `bind(lo, hi, h)`: `slot[a] <- h` for every `a` with `lo <= a <= hi` (R56). -/
def SlotTable.bind (t : SlotTable) (lo hi : Nat) (h : Handler) : SlotTable :=
  if lo ≤ hi then SlotTable.join (t.below 0 lo ++ (hi, h) :: t.above hi) else t

/-- `rebind_from(lo, hi, source)`: the component that owns `source` now takes over the range (R58). -/
def SlotTable.rebindFrom (t : SlotTable) (lo hi source : Word) : SlotTable :=
  t.bind lo.toNat hi.toNat (t.slot source.toNat)

/-- The boot-ROM lockout at 0xFF50: a write trigger for `rebind_from(0x0000, 0x00FF, 0x0100)` (R60). -/
def lockout : Handler := .triggered .write 0x0000 0x00FF 0x0100

/-- The map of R62 above 0x7FFF. -/
def slotsAboveRom : SlotTable :=
  [(0x9FFF, .videoRam), (0xBFFF, .cartridge), (0xFDFF, .workRam), (0xFE9F, .oam), (0xFEFF, .unusable),
   (0xFF00, .input), (0xFF02, .serial), (0xFF03, .unmapped), (0xFF07, .timer), (0xFF0E, .unmapped),
   (0xFF0F, .interruptController), (0xFF3F, .sound), (0xFF4B, .videoRegisters), (0xFF4F, .unmapped),
   (0xFF50, lockout), (0xFF7F, .unmapped), (0xFFFE, .highRam), (0xFFFF, .interruptController)]

/-- The map of R62 with the cartridge at 0x0000-0x00FF: the reset map when `BOOT_ROM = none`, and the map after the
lockout has fired (R60). -/
def slotsWithCartridge : SlotTable := (0x7FFF, .cartridge) :: slotsAboveRom

/-- The reset map of R62 with the boot ROM at 0x0000-0x00FF. -/
def slotsWithBootRom : SlotTable := (0x00FF, .bootRom) :: slotsWithCartridge

end Sys2Proof.Machine
end

