-- ==== Sys2Proof/Machine/State.lean ====
section
/-! DEFINITION. The state of the machine (R20, R36, R38, R40 of spec/10_state.md), as plain data, the state after
reset, and the reasons a step can stop. -/

namespace Sys2Proof.Machine

/-- The four flags of F (R24 to R28); bits 3 to 0 of F hold no state. -/
structure Flags where
  z : Bool
  n : Bool
  h : Bool
  c : Bool
  deriving DecidableEq, Repr

/-- The CPU registers (R21, R22, R24, R30, R31). -/
structure Regs where
  a : Byte
  f : Flags
  b : Byte
  c : Byte
  d : Byte
  e : Byte
  h : Byte
  l : Byte
  sp : Word
  pc : Word
  deriving DecidableEq, Repr

/-- The run state (R33). -/
inductive RunState where
  | running
  | halted
  | stopped
  | faulted (opcode : Byte) (pc : Word) (extended : Bool)
  deriving DecidableEq, Repr

/-- IF (five stored bits) and IE (R340, R341). -/
structure Irq where
  flag : BitVec 5
  enable : Byte
  deriving DecidableEq, Repr

/-- The timer (R345). -/
structure Timer where
  div : Word
  tima : Byte
  tma : Byte
  tac : BitVec 3
  prevEdge : Bool
  deriving DecidableEq, Repr

/-- The serial controller (R355). `running` is SC[7] and the running flag, `internal` is SC[0]; `line` holds the
incoming bits still to come (log 6). -/
structure Serial where
  sb : Byte
  running : Bool
  internal : Bool
  bitCount : Nat
  acc : Nat
  outByte : Byte
  line : List Bool
  deriving DecidableEq, Repr

/-- The registers and the frame counter of the video controller (R365 to R370, R377). `statSel` is STAT[6:3] and
`lycEq` is STAT[2]; LY, the mode, the decoded LCDC fields and the palettes are functions of these (log 11). -/
structure Video where
  lcdc : Byte
  statSel : BitVec 4
  lycEq : Bool
  scy : Byte
  scx : Byte
  lyc : Byte
  dma : Byte
  bgp : Byte
  obp0 : Byte
  obp1 : Byte
  wy : Byte
  wx : Byte
  frameCycle : Nat
  deriving DecidableEq, Repr

/-- The eight buttons, true when pressed (R385). -/
structure Buttons where
  right : Bool
  left : Bool
  up : Bool
  down : Bool
  a : Bool
  b : Bool
  select : Bool
  start : Bool
  deriving DecidableEq, Repr

/-- No button pressed. -/
def Buttons.released : Buttons :=
  { right := false, left := false, up := false, down := false, a := false, b := false, select := false, start := false }

/-- The input block (R385, R386): P1[5:4], the buttons of the last poll, and the poll results still to come (log 5). -/
structure Input where
  select : BitVec 2
  prev : Buttons
  polls : List Buttons
  deriving DecidableEq, Repr

/-- What the parameter `CART` is (R9, R66; log 3). -/
inductive CartKind where
  /-- The default of R66: a ROM image of 32768 bytes in `mem`, no RAM, writes discarded. -/
  | romOnly
  /-- The image, and 8192 bytes of plain RAM at 0xA000-0xBFFF, in `mem`. -/
  | romRam
  /-- Any other agent with `read` and `write`, reached through `State.cartridge`. -/
  | agent
  deriving DecidableEq, Repr

/-- The link to a cartridge agent (R66): the answers given for its next reads, and every access it has been handed,
newest first (log 3). -/
structure CartLink where
  answers : List Byte
  accesses : List CartAccess
  deriving DecidableEq, Repr

/-- The parameters of a launch that no step changes (R9): which `CART`, `BOOT_ROM` and `DMA_STALL_MCYCLES`. -/
structure Params where
  cart : CartKind
  bootRom : Option Memory
  dmaStallMCycles : Nat
  deriving DecidableEq, Repr

/-- An output event handed to the host (R359, R378): no rule reads it (log 12). -/
inductive HostEvent where
  | serialOut (byte : Byte)
  | frameOut (frame : Memory)
  deriving DecidableEq, Repr

/-- The whole machine. -/
structure State where
  regs : Regs
  ime : Bool
  eiPending : Bool
  run : RunState
  clock : Nat
  slots : SlotTable
  mem : Memory
  irq : Irq
  timer : Timer
  serial : Serial
  video : Video
  frameBuffer : Memory
  input : Input
  cartridge : CartLink
  params : Params
  events : List HostEvent
  draws : Nat
  deriving DecidableEq, Repr

/-- Why the machine takes no further step. -/
inductive Fault where
  /-- Raised by `step` of a machine whose run state is `faulted`: the error of R301 that "must propagate to the
  host", with the opcode, the PC it was fetched from, and whether it came from the extended table. Safe: the spec
  gives that machine no further step (R405). -/
  | unimplementedInstruction (opcode : Byte) (pc : Word) (extended : Bool)
  deriving DecidableEq, Repr

/-- Why an instruction has no meaning. -/
inductive Refusal where
  /-- Raised by an arm of `exec` for an instruction without a meaning; no arm uses it. Safe. -/
  | notModelled (mnemonic : String)
  deriving DecidableEq, Repr

/-- What a meaning answers. -/
abbrev Result := Host.Outcome State Fault Refusal

/-- The registers at reset: PC by R40; the others are `RESET_REGS`, which the spec leaves open (log 1). -/
def Regs.reset : Regs :=
  { a := 0x00, f := { z := false, n := false, h := false, c := false }, b := 0x00, c := 0x00, d := 0x00, e := 0x00,
    h := 0x00, l := 0x00, sp := 0x0000, pc := 0x0000 }

/-- The timer at reset (R40). -/
def Timer.reset : Timer := { div := 0x0000, tima := 0x00, tma := 0x00, tac := 0b000, prevEdge := false }

/-- The serial controller at reset (R40). -/
def Serial.reset : Serial :=
  { sb := 0x00, running := false, internal := false, bitCount := 0, acc := 0, outByte := 0x00, line := [] }

/-- The video controller at reset (R40): every register 0x00, display disabled. -/
def Video.reset : Video :=
  { lcdc := 0x00, statSel := 0b0000, lycEq := false, scy := 0x00, scx := 0x00, lyc := 0x00, dma := 0x00, bgp := 0x00,
    obp0 := 0x00, obp1 := 0x00, wy := 0x00, wx := 0x00, frameCycle := 0 }

/-- The machine right after reset (R40, R401), launch configuration (b) of R404: no boot ROM (log 4),
the default cartridge (log 3). -/
def State.reset : State :=
  { regs := Regs.reset
    ime := false
    eiPending := false
    run := .running
    clock := 0
    slots := slotsWithCartridge
    mem := []
    irq := { flag := 0b00000, enable := 0x00 }
    timer := Timer.reset
    serial := Serial.reset
    video := Video.reset
    frameBuffer := []
    input := { select := 0b00, prev := Buttons.released, polls := [] }
    cartridge := { answers := [], accesses := [] }
    params := { cart := .romOnly, bootRom := none, dmaStallMCycles := Config.defaultDmaStall }
    events := []
    draws := 0 }

end Sys2Proof.Machine
end

