-- ==== Sys2Proof/Machine/Update.lean ====
section
/-! DEFINITION. One update per field of `State`, and the updates of one register. Every operation of the machine
changes the state through these; Laws/State.lean says what each leaves alone. Only the load of a program updates
`params`. -/

namespace Sys2Proof.Machine

/-- Sets the CPU registers. -/
def State.setRegs (s : State) (x : Regs) : State := { s with regs := x }

/-- Sets IME. -/
def State.setIme (s : State) (x : Bool) : State := { s with ime := x }

/-- Sets `ei_pending`. -/
def State.setEiPending (s : State) (x : Bool) : State := { s with eiPending := x }

/-- Sets the run state. -/
def State.setRun (s : State) (x : RunState) : State := { s with run := x }

/-- Sets the clock. -/
def State.setClock (s : State) (x : Nat) : State := { s with clock := x }

/-- Sets the interconnect table. -/
def State.setSlots (s : State) (x : SlotTable) : State := { s with slots := x }

/-- Sets the storage. -/
def State.setMem (s : State) (x : Memory) : State := { s with mem := x }

/-- Sets IF and IE. -/
def State.setIrq (s : State) (x : Irq) : State := { s with irq := x }

/-- Sets the timer. -/
def State.setTimer (s : State) (x : Timer) : State := { s with timer := x }

/-- Sets the serial controller. -/
def State.setSerial (s : State) (x : Serial) : State := { s with serial := x }

/-- Sets the video controller. -/
def State.setVideo (s : State) (x : Video) : State := { s with video := x }

/-- Sets the frame buffer. -/
def State.setFrameBuffer (s : State) (x : Memory) : State := { s with frameBuffer := x }

/-- Sets the input block. -/
def State.setInput (s : State) (x : Input) : State := { s with input := x }

/-- Sets the link to the cartridge agent. -/
def State.setCartridge (s : State) (x : CartLink) : State := { s with cartridge := x }

/-- Sets the output events. -/
def State.setEvents (s : State) (x : List HostEvent) : State := { s with events := x }

/-- Sets the free-value counter. -/
def State.setDraws (s : State) (x : Nat) : State := { s with draws := x }

/-- Sets the launch parameters. -/
def State.setParams (s : State) (x : Params) : State := { s with params := x }

/-- Sets A (R21). -/
def State.setA (s : State) (v : Byte) : State := s.setRegs { s.regs with a := v }

/-- Sets the flags (R24). -/
def State.setFlags (s : State) (f : Flags) : State := s.setRegs { s.regs with f := f }

/-- Sets PC (R31). -/
def State.setPc (s : State) (v : Word) : State := s.setRegs { s.regs with pc := v }

/-- Sets SP (R30). -/
def State.setSp (s : State) (v : Word) : State := s.setRegs { s.regs with sp := v }

end Sys2Proof.Machine
end

