-- ==== Sys2Proof/Machine/Registers.lean ====
section
/-! DEFINITION. Reading and writing registers and register pairs (R11, R21 to R31). -/

namespace Sys2Proof.Machine

/-- `F` as a byte: Z N H C in bits 7 to 4, bits 3 to 0 zero (R24). -/
def Flags.toByte (f : Flags) : Byte :=
  BitVec.ofBool f.z ++ BitVec.ofBool f.n ++ BitVec.ofBool f.h ++ BitVec.ofBool f.c ++ 0b0000#4

/-- `F <- v[7:4]:0b0000` (R24): what a write of the byte `v` leaves. -/
def Flags.ofByte (v : Byte) : Flags :=
  { z := v.getLsbD 7, n := v.getLsbD 6, h := v.getLsbD 5, c := v.getLsbD 4 }

/-- `r8[i]` for a register code (R11). -/
def Regs.get8 (g : Regs) : Reg8 → Byte
  | .B => g.b | .C => g.c | .D => g.d | .E => g.e | .H => g.h | .L => g.l | .A => g.a

/-- `r8[i] <- v` for a register code (R11). -/
def Regs.set8 (g : Regs) : Reg8 → Byte → Regs
  | .B, v => { g with b := v }
  | .C, v => { g with c := v }
  | .D, v => { g with d := v }
  | .E, v => { g with e := v }
  | .H, v => { g with h := v }
  | .L, v => { g with l := v }
  | .A, v => { g with a := v }

/-- A pair read as the concatenation of its halves (R11, R23). -/
def Regs.getPair (g : Regs) : Pair → Word
  | .BC => joinBytes g.b g.c
  | .DE => joinBytes g.d g.e
  | .HL => joinBytes g.h g.l
  | .SP => g.sp
  | .AF => joinBytes g.a g.f.toByte

/-- `rp[p] <- v` and `rp2[p] <- v` (R11); a write to AF clears F[3:0] (R24). -/
def Regs.setPair (g : Regs) : Pair → Word → Regs
  | .BC, v => { g with b := hiByte v, c := loByte v }
  | .DE, v => { g with d := hiByte v, e := loByte v }
  | .HL, v => { g with h := hiByte v, l := loByte v }
  | .SP, v => { g with sp := v }
  | .AF, v => { g with a := hiByte v, f := Flags.ofByte (loByte v) }

/-- `r8[i]`. -/
def State.reg8 (s : State) (r : Reg8) : Byte := s.regs.get8 r

/-- `r8[i] <- v`. -/
def State.setReg8 (s : State) (r : Reg8) (v : Byte) : State := s.setRegs (s.regs.set8 r v)

/-- A pair. -/
def State.pair (s : State) (p : Pair) : Word := s.regs.getPair p

/-- A pair's new value. -/
def State.setPair (s : State) (p : Pair) (v : Word) : State := s.setRegs (s.regs.setPair p v)

/-- HL, the memory pointer (R23). -/
def State.hl (s : State) : Word := s.pair .HL

end Sys2Proof.Machine
end

