-- ==== Sys2Proof/Machine/Flags.lean ====
section
/-! DEFINITION. The arithmetic and the flag computations: R170, R195, R197 (42_alu8.md), R153 (41_load16_stack.md),
R200 (43_alu16.md), R210 to R214, R231 (44_rotate_shift_bit.md), R261 to R264 (46_misc_control.md). -/

namespace Sys2Proof.Machine

/-- A carry as an integer: true = 1, false = 0 (R10). -/
def carryNat (c : Bool) : Nat := c.toNat

/-- `u(v[3:0])`. -/
def lowNibble (v : Byte) : Nat := v.toNat % 16

/-- An 8-bit result with the four flags. -/
structure Alu8 where
  res : Byte
  flags : Flags
  deriving DecidableEq, Repr

/-- `add8(a, b, c)` (R170). -/
def add8 (a b : Byte) (c : Bool) : Alu8 :=
  let s := a.toNat + b.toNat + carryNat c
  let res := BitVec.ofNat 8 s
  { res := res
    flags :=
      { z := res == 0x00
        n := false
        h := decide (lowNibble a + lowNibble b + carryNat c > 0xF)
        c := decide (s > 0xFF) } }

/-- `sub8(a, b, c)` (R170). -/
def sub8 (a b : Byte) (c : Bool) : Alu8 :=
  let res := a - b - BitVec.ofNat 8 (carryNat c)
  { res := res
    flags :=
      { z := res == 0x00
        n := true
        h := decide (lowNibble a < lowNibble b + carryNat c)
        c := decide (a.toNat < b.toNat + carryNat c) } }

/-- A logic result: N = 0, C = 0, and H as the operation forces it (R170). -/
def logic8 (res : Byte) (h : Bool) : Alu8 :=
  { res := res, flags := { z := res == 0x00, n := false, h := h, c := false } }

/-- `and8(a, b)` (R170). -/
def and8 (a b : Byte) : Alu8 := logic8 (a &&& b) true

/-- `xor8(a, b)` (R170). -/
def xor8 (a b : Byte) : Alu8 := logic8 (a ^^^ b) false

/-- `or8(a, b)` (R170). -/
def or8 (a b : Byte) : Alu8 := logic8 (a ||| b) false

/-- The eight accumulator operations on A, the second operand and the carry flag (R170 to R194): what A becomes, with
the flags. `CP` discards the result, so A stays (R192). -/
def aluApply (op : AluOp) (a b : Byte) (cf : Bool) : Alu8 :=
  match op with
  | .add => add8 a b false
  | .adc => add8 a b cf
  | .sub => sub8 a b false
  | .sbc => sub8 a b cf
  | .and => and8 a b
  | .xor => xor8 a b
  | .or => or8 a b
  | .cp => { sub8 a b false with res := a }

/-- `v + 1` with Z, N, H; C unchanged (R195). -/
def inc8 (v : Byte) (f : Flags) : Alu8 :=
  { res := v + 1, flags := { f with z := v + 1 == 0x00, n := false, h := lowNibble v == 0xF } }

/-- `v - 1` with Z, N, H; C unchanged (R197). -/
def dec8 (v : Byte) (f : Flags) : Alu8 :=
  { res := v - 1, flags := { f with z := v - 1 == 0x00, n := true, h := lowNibble v == 0x0 } }

/-- The flags of `ADD HL,ss`: N = 0, H from bit 11, C from bit 15, Z unchanged (R200). -/
def addHLFlags (a b : Word) (f : Flags) : Flags :=
  { f with
    n := false
    h := decide (a.toNat % 0x1000 + b.toNat % 0x1000 > 0xFFF)
    c := decide (a.toNat + b.toNat > 0xFFFF) }

/-- The flags of `ADD SP,e` and `LDHL SP,e`, from the unsigned addition of the low bytes (R153, R201). -/
def spFlags (sp : Word) (e : Byte) : Flags :=
  { z := false
    n := false
    h := decide (sp.toNat % 0x10 + e.toNat % 0x10 > 0xF)
    c := decide (sp.toNat % 0x100 + e.toNat > 0xFF) }

/-- A shifted value and the bit moved out (R214). -/
structure Shifted where
  res : Byte
  co : Bool
  deriving DecidableEq, Repr

/-- `v[6:0] : b`, with bit 7 moved out. -/
def shiftLeft (v : Byte) (b : Bool) : Shifted :=
  { res := v.extractLsb' 0 7 ++ BitVec.ofBool b, co := v.getLsbD 7 }

/-- `b : v[7:1]`, with bit 0 moved out. -/
def shiftRight (v : Byte) (b : Bool) : Shifted :=
  { res := BitVec.ofBool b ++ v.extractLsb' 1 7, co := v.getLsbD 0 }

/-- The eight operations of the CB table, on the value and the old carry (R214). -/
def shiftApply (op : ShiftOp) (v : Byte) (cf : Bool) : Shifted :=
  match op with
  | .rlc => shiftLeft v (v.getLsbD 7)
  | .rrc => shiftRight v (v.getLsbD 0)
  | .rl => shiftLeft v cf
  | .rr => shiftRight v cf
  | .sla => shiftLeft v false
  | .sra => shiftRight v (v.getLsbD 7)
  | .swap => { res := v.extractLsb' 0 4 ++ v.extractLsb' 4 4, co := false }
  | .srl => shiftRight v false

/-- `F.Z <- (res = 0); F.N <- 0; F.H <- 0; F.C <- co` (R214). -/
def Shifted.flags (x : Shifted) : Flags := { z := x.res == 0x00, n := false, h := false, c := x.co }

/-- The flags of `RLCA`, `RLA`, `RRCA`, `RRA`: as R214 but Z = 0 always (R210). -/
def Shifted.accumulatorFlags (x : Shifted) : Flags := { x.flags with z := false }

/-- `F.Z <- (v[b] = 0); F.N <- 0; F.H <- 1`, C unchanged (R231). -/
def bitTestFlags (b : Code3) (v : Byte) (f : Flags) : Flags :=
  { f with z := !v.getLsbD b.val, n := false, h := true }

/-- `v & ~(0x01 << b)` (R233). -/
def clearBit (b : Code3) (v : Byte) : Byte := v &&& ~~~ bitMask b.val

/-- `v | (0x01 << b)` (R235). -/
def raiseBit (b : Code3) (v : Byte) : Byte := v ||| bitMask b.val

/-- The low correction of `DAA` applies (R261). -/
def daaLow (a : Byte) (f : Flags) : Bool := f.h || (!f.n && decide (lowNibble a > 9))

/-- The high correction of `DAA` applies (R261). -/
def daaHigh (a : Byte) (f : Flags) : Bool := f.c || (!f.n && decide (a.toNat > 0x99))

/-- `corr` of R261. -/
def daaCorrection (a : Byte) (f : Flags) : Byte :=
  (if daaLow a f then 0x06 else 0x00) ||| (if daaHigh a f then 0x60 else 0x00)

/-- `DAA`: the corrected A with the flags (R261). On the subtraction path `daaHigh` is the old carry. -/
def daaApply (a : Byte) (f : Flags) : Alu8 :=
  let corr := daaCorrection a f
  let res := if f.n then a - corr else a + corr
  { res := res, flags := { f with z := res == 0x00, h := false, c := daaHigh a f } }

end Sys2Proof.Machine
end

