-- ==== Sys2Proof/Machine/Interrupt.lean ====
section
/-! DEFINITION. Interrupt requests, the pending set, priority and vectors (R310 to R313, R316, R340, R341 of
spec/60_exceptions.md). -/

namespace Sys2Proof.Machine

/-- The five sources (R310). -/
inductive Source where
  | vblank | lcdStat | timer | serial | input
  deriving DecidableEq, Repr

/-- The source's bit in IF and IE (R310). -/
def Source.bit : Source → Nat
  | .vblank => 0 | .lcdStat => 1 | .timer => 2 | .serial => 3 | .input => 4

/-- The source's bit as a mask. -/
def Source.mask (k : Source) : BitVec 5 := 1#5 <<< k.bit

/-- The source's fixed vector, `0x0040 + 8k` (R316). -/
def Source.vector (k : Source) : Word := 0x0040 + BitVec.ofNat 16 (8 * k.bit)

/-- `request(k)`: IF[k] <- 1 (R311). -/
def request (k : Source) (s : State) : State := s.setIrq { s.irq with flag := s.irq.flag ||| k.mask }

/-- A request made only when `c` holds. -/
def requestIf (c : Bool) (k : Source) (s : State) : State := if c then request k s else s

/-- `IF[k] <- 0` (R315). -/
def acknowledge (k : Source) (s : State) : State := s.setIrq { s.irq with flag := s.irq.flag &&& ~~~ k.mask }

/-- `pending = IE & IF & 0x1F` (R312). -/
def State.pending (s : State) : BitVec 5 := s.irq.enable.setWidth 5 &&& s.irq.flag

/-- The lowest-numbered source of a pending set that is not empty (R313). -/
def leastSource (p : BitVec 5) : Source :=
  if p.getLsbD 0 then .vblank
  else if p.getLsbD 1 then .lcdStat
  else if p.getLsbD 2 then .timer
  else if p.getLsbD 3 then .serial
  else .input

/-- IF as a byte: bits 7 to 5 read as 1 (R340). -/
def readIF (s : State) : Byte := 0b111#3 ++ s.irq.flag

/-- A write of IF replaces the low five bits (R340). -/
def writeIF (v : Byte) (s : State) : State := s.setIrq { s.irq with flag := v.setWidth 5 }

/-- IE is a plain byte (R341). -/
def writeIE (v : Byte) (s : State) : State := s.setIrq { s.irq with enable := v }

end Sys2Proof.Machine
end

