-- ==== Sys2Proof/Machine/SerialUnit.lean ====
section
/-! DEFINITION. The serial controller (R355 to R360 of spec/60_exceptions.md). -/

namespace Sys2Proof.Machine

/-- T-states per tick of the 8192 Hz clock: 4194304 / 8192 (R358). -/
def serialPeriod : Nat := 512

/-- Bits of a transfer (R358). -/
def serialBits : Nat := 8

/-- `SERIAL_IN.next()` (R358): the next bit of the link; past the bits given, constant 1, the default (log 6). -/
def Serial.nextBit (c : Serial) : Bool := c.line.headD true

/-- One shift: SB[7] leaves to `out_byte`, the incoming bit enters at bit 0 (R358). -/
def Serial.shift (c : Serial) : Serial :=
  { c with
    outByte := c.outByte.extractLsb' 0 7 ++ BitVec.ofBool (c.sb.getLsbD 7)
    sb := c.sb.extractLsb' 0 7 ++ BitVec.ofBool c.nextBit
    bitCount := c.bitCount + 1
    line := c.line.tail }

/-- `Complete()`'s part in the controller: SC[7] <- 0, running <- false (R359). -/
def Serial.complete (c : Serial) : Serial := { c with running := false }

/-- The next step ends a period of the divided clock (R358). -/
def Serial.ticks (c : Serial) : Bool := c.acc + 1 == serialPeriod

/-- The next step shifts a bit: internal clock only (R358, R360). -/
def Serial.shifts (c : Serial) : Bool := c.ticks && c.running && c.internal

/-- The next step shifts the eighth bit (R358, R359). -/
def Serial.completes (c : Serial) : Bool := c.shifts && c.bitCount + 1 == serialBits

/-- One T-state of the controller's own registers (R358, R359). -/
def Serial.step (c : Serial) : Serial :=
  let c1 := { c with acc := if c.ticks then 0 else c.acc + 1 }
  if c.completes then c1.shift.complete
  else if c.shifts then c1.shift
  else c1

/-- `SerialStep()` (R358): at completion the byte goes to the host and interrupt 3 is requested (R359). -/
def serialStep (s : State) : State :=
  let s1 := s.setSerial s.serial.step
  if s.serial.completes then request .serial (s1.setEvents (.serialOut s1.serial.outByte :: s.events)) else s1

/-- Reads of 0xFF01 (SB) and 0xFF02 (SC) (R356, R357). -/
def readSerial (a : Word) (s : State) : Byte :=
  if a = 0xFF01 then (if s.serial.running then 0xFF else s.serial.sb)
  else if a = 0xFF02 then BitVec.ofBool s.serial.running ++ 0b111111#6 ++ BitVec.ofBool s.serial.internal
  else 0xFF

/-- A write of SC: bit 7 starts a transfer or abandons it; the accumulator is not touched (R357). -/
def Serial.control (c : Serial) (v : Byte) : Serial :=
  if v.getLsbD 7 then { c with running := true, internal := v.getLsbD 0, bitCount := 0, outByte := 0x00 }
  else { c with running := false, internal := v.getLsbD 0 }

/-- Writes of 0xFF01 (SB) and 0xFF02 (SC) (R356, R357). -/
def writeSerial (a : Word) (v : Byte) (s : State) : State :=
  if a = 0xFF01 then s.setSerial { s.serial with sb := v }
  else if a = 0xFF02 then s.setSerial (s.serial.control v)
  else s

end Sys2Proof.Machine
end

