-- ==== Sys2Proof/Machine/TimerUnit.lean ====
section
/-! DEFINITION. The timer (R345 to R351 of spec/60_exceptions.md). -/

namespace Sys2Proof.Machine

/-- The bit of `div16` that clocks TIMA for a value of TAC[1:0] (R349). -/
def timerBit (select : Nat) : Nat :=
  match select with
  | 0 => 9
  | 1 => 3
  | 2 => 5
  | _ => 7

/-- The gated bit `TAC[2] & div16[sel_bit(TAC[1:0])]` (R350). -/
def gatedBit (tac : BitVec 3) (div : Word) : Bool :=
  tac.getLsbD 2 && div.getLsbD (timerBit (tac.toNat % 4))

/-- The gated bit after the counter's next increment. -/
def Timer.nextGated (t : Timer) : Bool := gatedBit t.tac (t.div + 1)

/-- The next step sees a falling edge of the gated bit (R350). -/
def Timer.falls (t : Timer) : Bool := t.prevEdge && !t.nextGated

/-- The next step wraps TIMA: reload and request (R350). -/
def Timer.overflows (t : Timer) : Bool := t.falls && t.tima == 0xFF

/-- One T-state of the timer's own registers (R350). -/
def Timer.step (t : Timer) : Timer :=
  { t with
    div := t.div + 1
    tima := if t.overflows then t.tma else if t.falls then t.tima + 1 else t.tima
    prevEdge := t.nextGated }

/-- `TimerStep()` (R350). -/
def timerStep (s : State) : State := requestIf s.timer.overflows .timer (s.setTimer s.timer.step)

/-- Reads of 0xFF04-0xFF07: DIV, TIMA, TMA, TAC (R346 to R349). -/
def readTimer (a : Word) (s : State) : Byte :=
  if a = 0xFF04 then s.timer.div.extractLsb' 8 8
  else if a = 0xFF05 then s.timer.tima
  else if a = 0xFF06 then s.timer.tma
  else if a = 0xFF07 then 0b11111#5 ++ s.timer.tac
  else 0xFF

/-- Writes of 0xFF04-0xFF07: any write of DIV clears all sixteen bits and leaves `prev_edge` (R346 to R349). -/
def writeTimer (a : Word) (v : Byte) (s : State) : State :=
  if a = 0xFF04 then s.setTimer { s.timer with div := 0x0000 }
  else if a = 0xFF05 then s.setTimer { s.timer with tima := v }
  else if a = 0xFF06 then s.setTimer { s.timer with tma := v }
  else if a = 0xFF07 then s.setTimer { s.timer with tac := v.setWidth 3 }
  else s

end Sys2Proof.Machine
end

