-- ==== Sys2Proof/Machine/VideoUnit.lean ====
section
/-! DEFINITION. The video controller without OAM DMA: mode, LY, compare, frame generator, renderer, registers (R365
to R376 of spec/60_exceptions.md). OAM DMA (R377) goes through the bus and stands in Bus.lean. -/

namespace Sys2Proof.Machine

/-- T-states of a scanline (R371). -/
def lineCycles : Nat := 456

/-- T-states of the active portion: 144 scanlines (R371). -/
def activeCycles : Nat := 65664

/-- T-states of a frame: 154 scanlines (R8, R371). -/
def frameCycles : Nat := 70224

/-- Where OAM-read ends in an active line (R371). -/
def oamEnd : Nat := 80

/-- Where VRAM-read ends and HBlank begins in an active line (R371). -/
def hblankStart : Nat := 252

/-- Pixels of a line (R376). -/
def lineWidth : Nat := 160

/-- LCDC bit 7, display enable (R366). -/
def Video.displayOn (v : Video) : Bool := v.lcdc.getLsbD 7

/-- LY = floor(frame_cycle / 456) (R369). -/
def Video.ly (v : Video) : Byte := BitVec.ofNat 8 (v.frameCycle / lineCycles)

/-- The VBlank-scanline cycle counter, a function of the frame counter (R365, C12). -/
def Video.vblCycle (v : Video) : Nat :=
  if activeCycles ≤ v.frameCycle then (v.frameCycle - activeCycles) % lineCycles else 0

/-- The mode bits STAT[1:0] (R371): 2 OAM-read, 3 VRAM-read, 0 HBlank, 1 VBlank. -/
def Video.mode (v : Video) : BitVec 2 :=
  if activeCycles ≤ v.frameCycle then 1
  else if v.frameCycle % lineCycles < oamEnd then 2
  else if v.frameCycle % lineCycles < hblankStart then 3
  else 0

/-- The decoded fields of LCDC (R366). Window and sprite fields drive nothing (R7 (f)). -/
structure LcdcFields where
  displayOn : Bool
  windowMap : Word
  windowOn : Bool
  tileData : Word
  signedIndex : Bool
  backgroundMap : Word
  spriteHeight : Nat
  spritesOn : Bool
  backgroundOn : Bool
  deriving DecidableEq, Repr

/-- All fields are decoded together from LCDC (R366). -/
def Video.fields (v : Video) : LcdcFields :=
  { displayOn := v.lcdc.getLsbD 7
    windowMap := if v.lcdc.getLsbD 6 then 0x9C00 else 0x9800
    windowOn := v.lcdc.getLsbD 5
    tileData := if v.lcdc.getLsbD 4 then 0x8000 else 0x8800
    signedIndex := !v.lcdc.getLsbD 4
    backgroundMap := if v.lcdc.getLsbD 3 then 0x9C00 else 0x9800
    spriteHeight := if v.lcdc.getLsbD 2 then 16 else 8
    spritesOn := v.lcdc.getLsbD 1
    backgroundOn := v.lcdc.getLsbD 0 }

/-- Entry `i` of a palette's lookup: `P[2i+1:2i]` (R370). -/
def paletteEntry (p : Byte) (i : Nat) : BitVec 2 := p.extractLsb' (2 * i) 2

/-- The four-entry lookup of a palette register (R370). -/
def palette (p : Byte) : List (BitVec 2) :=
  [paletteEntry p 0, paletteEntry p 1, paletteEntry p 2, paletteEntry p 3]

/-- The cell of the frame buffer that holds pixel `(x, y)` (R376: row-major, 160 a row). -/
def pixelCell (y x : Nat) : Nat := y * lineWidth + x

/-- STAT[6], [5], [4], [3]: the interrupt selects (R367). -/
def Video.selectLyc (v : Video) : Bool := v.statSel.getLsbD 3
/-- STAT[5] (R367). -/
def Video.selectOam (v : Video) : Bool := v.statSel.getLsbD 2
/-- STAT[4] (R367). -/
def Video.selectVblank (v : Video) : Bool := v.statSel.getLsbD 1
/-- STAT[3] (R367). -/
def Video.selectHblank (v : Video) : Bool := v.statSel.getLsbD 0

/-- `CompareLY()` (R369). -/
def compareLy (s : State) : State :=
  let eq := s.video.ly == s.video.lyc
  requestIf (eq && s.video.selectLyc) .lcdStat (s.setVideo { s.video with lycEq := eq })

/-- The address of the tile that index `t` names (R373): base 0x8000 unsigned, or 0x8800 with the index signed and
offset by 128. -/
def tileAddress (signed : Bool) (t : Byte) : Nat :=
  if signed then 0x8800 + (t ^^^ 0x80).toNat * 16 else 0x8000 + t.toNat * 16

/-- The colour of pixel `x` of line `y` (R373), read from video RAM directly. -/
def renderPixel (s : State) (y x : Nat) : Byte :=
  if s.video.fields.backgroundOn then
    let px := (x + s.video.scx.toNat) % 256
    let py := (y + s.video.scy.toNat) % 256
    let t := s.mem.read (s.video.fields.backgroundMap.toNat + py / 8 * 32 + px / 8)
    let row := tileAddress s.video.fields.signedIndex t + py % 8 * 2
    let b := 7 - px % 8
    let idx := (s.mem.read row).getLsbD b |>.toNat
    let idxHi := (s.mem.read (row + 1)).getLsbD b |>.toNat
    (paletteEntry s.video.bgp (2 * idxHi + idx)).setWidth 8
  else 0x00

/-- The first `n` pixels of line `y` written to the frame buffer. -/
def renderPixels (s : State) (y : Nat) : Nat → Memory
  | 0 => s.frameBuffer
  | n + 1 => (renderPixels s y n).write (pixelCell y n) (renderPixel s y n)

/-- `RenderLine(LY)`: 160 pixels of row LY (R373). -/
def renderLine (s : State) : State := s.setFrameBuffer (renderPixels s s.video.ly.toNat lineWidth)

/-- `LY` changes and the compare is evaluated again, at the first T-state of a scanline (R372). -/
def newScanline (s : State) : State :=
  if s.video.frameCycle % lineCycles = 0 then compareLy s else s

/-- Entering OAM-read in an active line (R372). -/
def enterOamRead (s : State) : State :=
  requestIf (decide (s.video.frameCycle < activeCycles) && s.video.frameCycle % lineCycles == 0 && s.video.selectOam)
    .lcdStat s

/-- Entering HBlank in an active line: the line is rendered (R372). -/
def enterHblank (s : State) : State :=
  if s.video.frameCycle < activeCycles ∧ s.video.frameCycle % lineCycles = hblankStart then
    requestIf s.video.selectHblank .lcdStat (renderLine s)
  else s

/-- Entering VBlank: interrupt 0, the optional interrupt 1, and the frame goes to the host (R372, R378). -/
def enterVblank (s : State) : State :=
  if s.video.frameCycle = activeCycles then
    let s1 := requestIf s.video.selectVblank .lcdStat (request .vblank s)
    s1.setEvents (.frameOut s1.frameBuffer :: s1.events)
  else s

/-- `VideoStep()` (R372). -/
def videoStep (s : State) : State :=
  if s.video.displayOn then
    enterVblank (enterHblank (enterOamRead (newScanline
      (s.setVideo { s.video with frameCycle := (s.video.frameCycle + 1) % frameCycles }))))
  else s

/-- STAT as a byte (R367). -/
def readStat (s : State) : Byte :=
  1#1 ++ s.video.statSel ++ BitVec.ofBool s.video.lycEq ++ s.video.mode

/-- Reads of 0xFF40-0xFF4B (R366 to R370, R377). -/
def readVideo (a : Word) (s : State) : Byte :=
  if a = 0xFF40 then s.video.lcdc
  else if a = 0xFF41 then readStat s
  else if a = 0xFF42 then s.video.scy
  else if a = 0xFF43 then s.video.scx
  else if a = 0xFF44 then s.video.ly
  else if a = 0xFF45 then s.video.lyc
  else if a = 0xFF46 then s.video.dma
  else if a = 0xFF47 then s.video.bgp
  else if a = 0xFF48 then s.video.obp0
  else if a = 0xFF49 then s.video.obp1
  else if a = 0xFF4A then s.video.wy
  else if a = 0xFF4B then s.video.wx
  else 0xFF

/-- A write of LCDC, with the disable and enable actions when bit 7 changes (R366, R374). -/
def writeLcdc (v : Byte) (s : State) : State :=
  let on := s.video.displayOn
  let s1 := s.setVideo { s.video with lcdc := v }
  if on && !v.getLsbD 7 then compareLy (s1.setVideo { s1.video with frameCycle := 0 })
  else if !on && v.getLsbD 7 then s1.setVideo { s1.video with frameCycle := 0 }
  else s1

/-- Writes of 0xFF40-0xFF4B but 0xFF46 (R366 to R370): LY is read-only, STAT stores bits 6 to 3, a write of LYC
evaluates the compare again. -/
def writeVideo (a : Word) (v : Byte) (s : State) : State :=
  if a = 0xFF40 then writeLcdc v s
  else if a = 0xFF41 then s.setVideo { s.video with statSel := v.extractLsb' 3 4 }
  else if a = 0xFF42 then s.setVideo { s.video with scy := v }
  else if a = 0xFF43 then s.setVideo { s.video with scx := v }
  else if a = 0xFF44 then s
  else if a = 0xFF45 then compareLy (s.setVideo { s.video with lyc := v })
  else if a = 0xFF47 then s.setVideo { s.video with bgp := v }
  else if a = 0xFF48 then s.setVideo { s.video with obp0 := v }
  else if a = 0xFF49 then s.setVideo { s.video with obp1 := v }
  else if a = 0xFF4A then s.setVideo { s.video with wy := v }
  else if a = 0xFF4B then s.setVideo { s.video with wx := v }
  else s

end Sys2Proof.Machine
end

