-- ==== Sys2Proof/Machine/Clock.lean ====
section
/-! DEFINITION. The clock (R12 of spec/00_scope.md, R411 of spec/70_reset_and_hazards.md). -/

namespace Sys2Proof.Machine

/-- One T-state of the three peripherals, in the order of R411. -/
def tState (s : State) : State := videoStep (serialStep (timerStep s))

/-- `Tick()`, one machine cycle: the clock, then four T-states (R411). -/
def tick (s : State) : State := tState (tState (tState (tState (s.setClock (s.clock + 4)))))

/-- `Tick(n)` (R12). -/
def tickN : Nat → State → State
  | 0, s => s
  | n + 1, s => tickN n (tick s)

end Sys2Proof.Machine
end

