-- ==== Sys2Proof/Machine/InputUnit.lean ====
section
/-! DEFINITION. The input block (R385, R386 of spec/60_exceptions.md). -/

namespace Sys2Proof.Machine

/-- `INPUT.poll()`: the next poll result; past the results given, all released, the default (R9, log 5). -/
def Input.next (i : Input) : Buttons := i.polls.headD Buttons.released

/-- Some button goes from released to pressed between two polls (R386). -/
def newlyPressed (prev now : Buttons) : Bool :=
  (!prev.right && now.right) || (!prev.left && now.left) || (!prev.up && now.up) || (!prev.down && now.down) ||
  (!prev.a && now.a) || (!prev.b && now.b) || (!prev.select && now.select) || (!prev.start && now.start)

/-- `prev <- now`, and the poll result is used up (R386). -/
def Input.polled (i : Input) : Input := { i with prev := i.next, polls := i.polls.tail }

/-- The next poll sees a press (R386). -/
def State.pressSeen (s : State) : Bool := newlyPressed s.input.prev s.input.next

/-- `Poll()` without its result (R386). -/
def poll (s : State) : State := requestIf s.pressSeen .input (s.setInput s.input.polled)

/-- The direction nibble, bit 0 Right to bit 3 Down (R385). -/
def Buttons.directions (b : Buttons) : BitVec 4 :=
  BitVec.ofBool b.down ++ BitVec.ofBool b.up ++ BitVec.ofBool b.left ++ BitVec.ofBool b.right

/-- The button nibble, bit 0 A to bit 3 Start (R385). -/
def Buttons.actions (b : Buttons) : BitVec 4 :=
  BitVec.ofBool b.start ++ BitVec.ofBool b.select ++ BitVec.ofBool b.b ++ BitVec.ofBool b.a

/-- The low nibble of P1: pressed reads 0 in a selected group (R385). -/
def p1Low (select : BitVec 2) (now : Buttons) : BitVec 4 :=
  let low := if select.getLsbD 0 then 0b1111#4 else ~~~ now.directions
  if select.getLsbD 1 then low else low &&& ~~~ now.actions

/-- A read of P1: poll, then `0b11:P1[5:4]:low` (R385). -/
def readP1 (s : State) : Byte × State :=
  (0b11#2 ++ s.input.select ++ p1Low s.input.select s.input.next, poll s)

/-- A write of P1 stores bits 5 and 4 (R385). -/
def writeP1 (v : Byte) (s : State) : State := s.setInput { s.input with select := v.extractLsb' 4 2 }

end Sys2Proof.Machine
end

