-- ==== Sys2Proof/Machine/Bus.lean ====
section
/-! DEFINITION. The bus: which handler serves an address and what it does (R57 to R71 of spec/20_memory.md), and OAM
DMA (R377 of spec/60_exceptions.md). The range checks of a handler are those of R62; an address outside its ranges
is never bound to it (R61) and reads 0xFF and discards (log 10). -/

namespace Sys2Proof.Machine

/-- The cell of the RAM that `h` keeps for the bus address `a`: video RAM, cartridge RAM where the cartridge has it,
work RAM with its mirror, OAM, high RAM (R65 to R68, R71). -/
def storageKey (cart : CartKind) (h : Handler) (a : Word) : Option Nat :=
  match h with
  | .cartridge => if cart = .romRam ∧ 0xA000 ≤ a.toNat ∧ a.toNat < 0xC000 then some a.toNat else none
  | .videoRam => if 0x8000 ≤ a.toNat ∧ a.toNat < 0xA000 then some a.toNat else none
  | .workRam =>
    if 0xC000 ≤ a.toNat ∧ a.toNat < 0xE000 then some a.toNat
    else if 0xE000 ≤ a.toNat ∧ a.toNat < 0xFE00 then some (a.toNat - 0x2000)
    else none
  | .oam => if 0xFE00 ≤ a.toNat ∧ a.toNat < 0xFEA0 then some a.toNat else none
  | .highRam => if 0xFF80 ≤ a.toNat ∧ a.toNat < 0xFFFF then some a.toNat else none
  | _ => none

/-- The handler of an address now (R57). -/
def State.handler (s : State) (a : Word) : Handler := s.slots.slot a.toNat

/-- The cell that a write of the bus address `a` stores to, where it stores to memory. -/
def State.cellOf (s : State) (a : Word) : Option Nat := storageKey s.params.cart (s.handler a) a

/-- What the cartridge holds at an address (R66, log 3): ROM below 0x8000, cartridge RAM where it has any, 0xFF where
it has none; `none` where the cartridge is an agent. -/
def cartridgeStored (a : Word) (s : State) : Option Byte :=
  match s.params.cart with
  | .romOnly => some (if a.toNat < 0x8000 then s.mem.read a.toNat else 0xFF)
  | .romRam =>
    some (if a.toNat < 0x8000 ∨ (0xA000 ≤ a.toNat ∧ a.toNat < 0xC000) then s.mem.read a.toNat else 0xFF)
  | .agent => none

/-- The agent's answer to its next read, of the address `a`: the next answer given, and past those the free agent's
(R66, log 3). -/
def CartLink.answer (c : CartLink) (a : Word) : Byte := c.answers.headD (Config.cartridgeRead c.accesses a)

/-- `CART.read(addr)`: the agent answers, and keeps what it has been asked (R66). -/
def agentRead (a : Word) (s : State) : Byte × State :=
  let v := s.cartridge.answer a
  (v, s.setCartridge { answers := s.cartridge.answers.tail, accesses := .read a v :: s.cartridge.accesses })

/-- `CART.write(addr, v)`: the agent is handed the byte; its later answers may depend on it (R66). -/
def agentWrite (a : Word) (v : Byte) (s : State) : State :=
  s.setCartridge { s.cartridge with accesses := .write a v :: s.cartridge.accesses }

/-- A write of the cartridge that stores to no RAM of it: ROM discards it, an agent is handed it (R66). -/
def cartridgeWrite (a : Word) (v : Byte) (s : State) : State :=
  match s.params.cart with
  | .romOnly | .romRam => s
  | .agent => agentWrite a v s

/-- `BOOT_ROM[addr]` (R63). -/
def bootRomRead (a : Word) (s : State) : Byte :=
  match s.params.bootRom with
  | some image => if a.toNat < 0x100 then image.read a.toNat else 0xFF
  | none => 0xFF

/-- A read of storage: RAM, a cartridge of ROM and RAM, the boot ROM. It changes nothing; `none` where the handler is a
device or a cartridge agent. -/
def storageRead (h : Handler) (a : Word) (s : State) : Option Byte :=
  match h with
  | .cartridge => cartridgeStored a s
  | .bootRom => some (bootRomRead a s)
  | h => (storageKey s.params.cart h a).map s.mem.read

/-- The byte that plain storage holds at an address. -/
def State.peek (s : State) (a : Word) : Option Byte := storageRead (s.handler a) a s

/-- Reads of the interrupt controller (R340, R341). -/
def readInterrupt (a : Word) (s : State) : Byte :=
  if a = 0xFF0F then readIF s else if a = 0xFFFF then s.irq.enable else 0xFF

/-- Writes of the interrupt controller (R340, R341). -/
def writeInterrupt (a : Word) (v : Byte) (s : State) : State :=
  if a = 0xFF0F then writeIF v s else if a = 0xFFFF then writeIE v s else s

/-- A read of the sound stub: an unspecified byte (R69), a new free value each time (log 8). -/
def readSound (s : State) : Byte × State := (Config.soundStubRead s.draws, s.setDraws (s.draws + 1))

/-- A trigger type fires on reads (R59). -/
def TriggerType.onRead : TriggerType → Bool
  | .read | .both => true
  | .write => false

/-- A trigger type fires on writes (R59). -/
def TriggerType.onWrite : TriggerType → Bool
  | .write | .both => true
  | .read => false

/-- The rebind action of a triggered mapping, when it fires (R58, R59). -/
def rebindIf (fires : Bool) (first last source : Word) (s : State) : State :=
  if fires then s.setSlots (s.slots.rebindFrom first last source) else s

/-- A read of a handler that is not storage. -/
def deviceRead (h : Handler) (a : Word) (s : State) : Byte × State :=
  match h with
  | .unusable => (0x00, s)
  | .cartridge => agentRead a s
  | .input => if a = 0xFF00 then readP1 s else (0xFF, s)
  | .serial => (readSerial a s, s)
  | .timer => (readTimer a s, s)
  | .interruptController => (readInterrupt a s, s)
  | .sound => readSound s
  | .videoRegisters => (readVideo a s, s)
  | .triggered kind first last source => (0xFF, rebindIf kind.onRead first last source s)
  | .unmapped | .bootRom | .videoRam | .workRam | .oam | .highRam => (0xFF, s)

/-- `handler.read(addr)` (R54). -/
def handlerRead (h : Handler) (a : Word) (s : State) : Byte × State :=
  match storageRead h a s with
  | some v => (v, s)
  | none => deviceRead h a s

/-- `Bus.read(addr)` (R57): the handler is looked up at the time of the access. -/
def busRead (a : Word) (s : State) : Byte × State := handlerRead (s.handler a) a s

/-- The cell of `OAM[i]` (R68). -/
def oamCell (i : Nat) : Nat := 0xFE00 + i

/-- Bytes of OAM, and of one OAM DMA (R377). -/
def oamSize : Nat := 160

/-- `OAM[i] <- Bus.read((v << 8) + i)` (R377). -/
def dmaByte (v : Byte) (i : Nat) (s : State) : State :=
  let r := busRead (joinBytes v 0x00 + BitVec.ofNat 16 i) s
  r.2.setMem (r.2.mem.write (oamCell i) r.1)

/-- The bytes `i`, `i + 1`, … of the copy, `n` of them, in order (R377). -/
def dmaCopy (v : Byte) : Nat → Nat → State → State
  | 0, _, s => s
  | n + 1, i, s => dmaCopy v n (i + 1) (dmaByte v i s)

/-- A write of 0xFF46: the copy, then the stall (R377). -/
def oamDma (v : Byte) (s : State) : State :=
  tickN s.params.dmaStallMCycles (dmaCopy v oamSize 0 (s.setVideo { s.video with dma := v }))

/-- Writes of the video registers, OAM DMA included (R366 to R370, R377). -/
def writeVideoRegister (a : Word) (v : Byte) (s : State) : State :=
  if a = 0xFF46 then oamDma v s else writeVideo a v s

/-- A write that stores to no RAM: the boot ROM, the unusable range, the sound stub and the unmapped handler discard the
value (R55, R63, R68, R69). -/
def deviceWrite (h : Handler) (a : Word) (v : Byte) (s : State) : State :=
  match h with
  | .cartridge => cartridgeWrite a v s
  | .input => if a = 0xFF00 then writeP1 v s else s
  | .serial => writeSerial a v s
  | .timer => writeTimer a v s
  | .interruptController => writeInterrupt a v s
  | .videoRegisters => writeVideoRegister a v s
  | .triggered kind first last source => rebindIf kind.onWrite first last source s
  | .unmapped | .bootRom | .videoRam | .workRam | .oam | .highRam | .unusable | .sound => s

/-- `handler.write(addr, v)` (R54). -/
def handlerWrite (h : Handler) (a : Word) (v : Byte) (s : State) : State :=
  match storageKey s.params.cart h a with
  | some k => s.setMem (s.mem.write k v)
  | none => deviceWrite h a v s

/-- `Bus.write(addr, v)` (R57). -/
def busWrite (a : Word) (v : Byte) (s : State) : State := handlerWrite (s.handler a) a v s

/-- The cells of memory that a write of the bus address `a` may store to: the RAM byte, all of OAM for 0xFF46. -/
def State.cellsWritten (s : State) (a : Word) : List Nat :=
  match s.cellOf a with
  | some k => [k]
  | none =>
    if s.handler a = .videoRegisters ∧ a = 0xFF46 then (List.range oamSize).map oamCell else []

/-- The M-cycles that a write of the bus address `a` charges beyond its own: the stall of an OAM DMA (R377). -/
def State.stallCycles (s : State) (a : Word) : Nat :=
  if s.handler a = .videoRegisters ∧ a = 0xFF46 then s.params.dmaStallMCycles else 0

end Sys2Proof.Machine
end

