-- ==== Sys2Proof/Machine/Ops.lean ====
section
/-! DEFINITION. The shared operations of the instructions: memory, fetch and stack primitives (R13 to R15 of
spec/00_scope.md), taking an exception and returning from one (R16, R301, R315, R250), `HALT` and `STOP` passes. -/

namespace Sys2Proof.Machine

/-- `MemRead(addr, 1)`: the M-cycle is charged before the access (R13). -/
def memRead (a : Word) (s : State) : Byte × State := busRead a (tick s)

/-- `MemWrite(addr, 1, v)` (R13). -/
def memWrite (a : Word) (v : Byte) (s : State) : State := busWrite a v (tick s)

/-- `MemWrite(addr, 2, v)`: low byte first (R13, R51). -/
def memWrite16 (a v : Word) (s : State) : State := memWrite (a + 1) (hiByte v) (memWrite a (loByte v) s)

/-- `Fetch8()` (R14). -/
def fetch8 (s : State) : Byte × State :=
  let r := memRead s.regs.pc s
  (r.1, r.2.setPc (r.2.regs.pc + 1))

/-- `SP <- SP - 1; MemWrite(SP, 1, v)`, half of `Push16` (R15). -/
def push8 (v : Byte) (s : State) : State :=
  let s1 := s.setSp (s.regs.sp - 1)
  memWrite s1.regs.sp v s1

/-- `Push16(v)`: high byte first (R15). -/
def push16 (v : Word) (s : State) : State := push8 (loByte v) (push8 (hiByte v) s)

/-- `MemRead(SP, 1); SP <- SP + 1`, half of `Pop16` (R15). -/
def pop8 (s : State) : Byte × State :=
  let r := memRead s.regs.sp s
  (r.1, r.2.setSp (r.2.regs.sp + 1))

/-- `Pop16()`: low byte first (R15). -/
def pop16 (s : State) : Word × State :=
  let lo := pop8 s
  let hi := pop8 lo.2
  (joinBytes hi.1 lo.1, hi.2)

/-- `raise UnimplementedInstruction(opcode, pc0)`, the one synchronous exception (R16, R301): it ends the instruction,
writes nothing, and the run state becomes `Faulted(opcode, pc0, false)`. `pc0` is the address the opcode byte was
fetched from, one before PC (R269). -/
def raiseUnimplemented (opcode : Byte) (s : State) : State :=
  s.setRun (.faulted opcode (s.regs.pc - 1) false)

/-- Interrupt dispatch (R315): two internal cycles, PC pushed, IME and `ei_pending` cleared, the IF bit cleared, one
internal cycle, PC at the source's vector. -/
def takeInterrupt (k : Source) (s : State) : State :=
  let s1 := push16 s.regs.pc (tick (tick s))
  let s2 := acknowledge k ((s1.setIme false).setEiPending false)
  (tick s2).setPc k.vector

/-- `v <- Pop16(); Tick(); PC <- v`: the return of `RET`, of a taken `RET cc`, and of `RETI` (R248 to R250). -/
def returnPc (s : State) : State :=
  let r := pop16 s
  (tick r.2).setPc r.1

/-- The return from an interrupt: `returnPc`, then IME set at once (R250, R318). -/
def returnFromInterrupt (s : State) : State := ((returnPc s).setIme true).setEiPending false

/-- `Tick(); Push16(PC); PC <- target`: `CALL` and `RST` (R246, R247, R252). -/
def callTo (target : Word) (s : State) : State :=
  let s1 := tick s
  (push16 s1.regs.pc s1).setPc target

/-- `Tick(); PC <- target` (R241, R244). -/
def jumpTo (target : Word) (s : State) : State := (tick s).setPc target

/-- A pass in the run state `Stopped` (R321): only the poll, no `Tick()`. -/
def stopPass (s : State) : State := if s.pressSeen then (poll s).setRun .running else poll s

/-- The last line of a pass (R405): `if arm = 1 and ei_pending = 1 then IME <- 1; ei_pending <- 0`. A pass that
raised the exception ended before it (R16, log 17). -/
def finishPass (arm : Bool) (s : State) : State :=
  match s.run with
  | .faulted _ _ _ => s
  | .running | .halted | .stopped => if arm && s.eiPending then (s.setIme true).setEiPending false else s

end Sys2Proof.Machine
end

