-- ==== Sys2Proof/Machine/Operands.lean ====
section
/-! DEFINITION. Operand forms: the addresses that loads and stores form (R125 to R138), the second operand of the
8-bit instructions (R170), the relative target (R244) and the conditions (R17). -/

namespace Sys2Proof.Machine

/-- The memory operands. -/
inductive Place where
  /-- `(BC)`, `(DE)`, `(HL)` (R122, R125, R126). -/
  | pair (p : Pair)
  /-- `(nn)` (R129). -/
  | abs (nn : Word)
  /-- `(C)`: 0xFF00 + C (R131). -/
  | pageC
  /-- `(n)`: 0xFF00 + n (R133). -/
  | page (n : Byte)
  /-- `(HLI)`: HL, then incremented (R135). -/
  | hlInc
  /-- `(HLD)`: HL, then decremented (R136). -/
  | hlDec
  deriving DecidableEq, Repr

/-- The address of a memory operand. -/
def Place.address (p : Place) (s : State) : Word :=
  match p with
  | .pair q => s.pair q
  | .abs nn => nn
  | .pageC => 0xFF00 + zeroExtend16 s.regs.c
  | .page n => 0xFF00 + zeroExtend16 n
  | .hlInc => s.hl
  | .hlDec => s.hl

/-- What a memory operand does to HL after the access (R135 to R138). -/
def Place.after (p : Place) (s : State) : State :=
  match p with
  | .hlInc => s.setPair .HL (s.hl + 1)
  | .hlDec => s.setPair .HL (s.hl - 1)
  | .pair _ | .abs _ | .pageC | .page _ => s

/-- The second operand of an 8-bit operation: a register, the byte at HL, or the immediate byte (R170). -/
inductive Source8 where
  | reg (r : Reg8)
  | atHL
  | imm (n : Byte)
  deriving DecidableEq, Repr

/-- The value of a second operand, and the state after reading it. The immediate byte was fetched with the
instruction (R14). -/
def Source8.read (o : Source8) (s : State) : Byte × State :=
  match o with
  | .reg r => (s.reg8 r, s)
  | .atHL => memRead s.hl s
  | .imm n => (n, s)

/-- A read-modify-write of the byte at HL: one read, one write to the same address, then the flags (R52, R196, R198,
R216, R234, R236). -/
def modifyHL (g : Byte → Flags → Alu8) (s : State) : State :=
  let x := memRead s.hl s
  let y := g x.1 x.2.regs.f
  (memWrite s.hl y.res x.2).setFlags y.flags

/-- `cond(cc)` (R17). -/
def condHolds (cc : Cond) (f : Flags) : Bool :=
  match cc with
  | .NZ => !f.z
  | .Z => f.z
  | .NC => !f.c
  | .C => f.c

/-- `PC + sext_16(e)`, PC being the address of the next instruction (R244). -/
def relativeTarget (e : Byte) (s : State) : Word := s.regs.pc + signExtend16 e

/-- `t * 8` (R96, R252). -/
def restartTarget (t : Code3) : Word := BitVec.ofNat 16 (8 * t.val)

end Sys2Proof.Machine
end

