-- ==== Sys2Proof/Machine/Alu16.lean ====
section
/-! DEFINITION. 16-bit arithmetic (R200 to R203 of spec/43_alu16.md). -/

namespace Sys2Proof.Machine

/-- `ADD HL,ss`: the flags, `HL <- s[15:0]`, `Tick()` (R200). -/
def addHLPair (p : Pair) (s : State) : Result :=
  .next (tick ((s.setFlags (addHLFlags s.hl (s.pair p) s.regs.f)).setPair .HL (s.hl + s.pair p)))

/-- `ADD SP,e`: the flags, two internal cycles, then SP (R201). -/
def addSPE (e : Byte) (s : State) : Result :=
  .next ((tick (tick (s.setFlags (spFlags s.regs.sp e)))).setSp (s.regs.sp + signExtend16 e))

/-- `INC ss` and `DEC ss`: the pair, then `Tick()`; no flags (R202, R203). -/
def stepPair (p : Pair) (delta : Word) (s : State) : Result := .next (tick (s.setPair p (s.pair p + delta)))

/-- `INC BC`, 0x03 (R202). -/
def exec_inc_bc (s : State) : Result := stepPair .BC 1 s

/-- `ADD HL,BC`, 0x09 (R200). -/
def exec_add_hl_bc (s : State) : Result := addHLPair .BC s

/-- `DEC BC`, 0x0B (R203). -/
def exec_dec_bc (s : State) : Result := stepPair .BC (-1) s

/-- `INC DE`, 0x13 (R202). -/
def exec_inc_de (s : State) : Result := stepPair .DE 1 s

/-- `ADD HL,DE`, 0x19 (R200). -/
def exec_add_hl_de (s : State) : Result := addHLPair .DE s

/-- `DEC DE`, 0x1B (R203). -/
def exec_dec_de (s : State) : Result := stepPair .DE (-1) s

/-- `INC HL`, 0x23 (R202). -/
def exec_inc_hl (s : State) : Result := stepPair .HL 1 s

/-- `ADD HL,HL`, 0x29 (R200). -/
def exec_add_hl_hl (s : State) : Result := addHLPair .HL s

/-- `DEC HL`, 0x2B (R203). -/
def exec_dec_hl (s : State) : Result := stepPair .HL (-1) s

/-- `INC SP`, 0x33 (R202). -/
def exec_inc_sp (s : State) : Result := stepPair .SP 1 s

/-- `ADD HL,SP`, 0x39 (R200). -/
def exec_add_hl_sp (s : State) : Result := addHLPair .SP s

/-- `DEC SP`, 0x3B (R203). -/
def exec_dec_sp (s : State) : Result := stepPair .SP (-1) s

/-- `ADD SP,e`, 0xE8 (R201). -/
def exec_add_sp_e (e : Byte) (s : State) : Result := addSPE e s

end Sys2Proof.Machine
end

