-- ==== Sys2Proof/Machine/Alu8.lean ====
section
/-! DEFINITION. 8-bit arithmetic and logic (R170 to R198 of spec/42_alu8.md). -/

namespace Sys2Proof.Machine

/-- `(A, F.Z, F.N, F.H, F.C) <- op(A, b)`, for each of the eight operations and each of the three forms of the second
operand (R171 to R194). -/
def aluWith (op : AluOp) (o : Source8) (s : State) : Result :=
  let x := o.read s
  let y := aluApply op x.2.regs.a x.1 x.2.regs.f.c
  .next ((x.2.setA y.res).setFlags y.flags)

/-- `INC r` and `DEC r`: the register, then the flags (R195, R197). -/
def stepReg (g : Byte → Flags → Alu8) (r : Reg8) (s : State) : Result :=
  let y := g (s.reg8 r) s.regs.f
  .next ((s.setReg8 r y.res).setFlags y.flags)

/-- `INC B`, 0x04 (R195). -/
def exec_inc_b (s : State) : Result := stepReg inc8 .B s

/-- `DEC B`, 0x05 (R197). -/
def exec_dec_b (s : State) : Result := stepReg dec8 .B s

/-- `INC C`, 0x0C (R195). -/
def exec_inc_c (s : State) : Result := stepReg inc8 .C s

/-- `DEC C`, 0x0D (R197). -/
def exec_dec_c (s : State) : Result := stepReg dec8 .C s

/-- `INC D`, 0x14 (R195). -/
def exec_inc_d (s : State) : Result := stepReg inc8 .D s

/-- `DEC D`, 0x15 (R197). -/
def exec_dec_d (s : State) : Result := stepReg dec8 .D s

/-- `INC E`, 0x1C (R195). -/
def exec_inc_e (s : State) : Result := stepReg inc8 .E s

/-- `DEC E`, 0x1D (R197). -/
def exec_dec_e (s : State) : Result := stepReg dec8 .E s

/-- `INC H`, 0x24 (R195). -/
def exec_inc_h (s : State) : Result := stepReg inc8 .H s

/-- `DEC H`, 0x25 (R197). -/
def exec_dec_h (s : State) : Result := stepReg dec8 .H s

/-- `INC L`, 0x2C (R195). -/
def exec_inc_l (s : State) : Result := stepReg inc8 .L s

/-- `DEC L`, 0x2D (R197). -/
def exec_dec_l (s : State) : Result := stepReg dec8 .L s

/-- `INC (HL)`, 0x34 (R196). -/
def exec_inc__hl (s : State) : Result := .next (modifyHL inc8 s)

/-- `DEC (HL)`, 0x35 (R198). -/
def exec_dec__hl (s : State) : Result := .next (modifyHL dec8 s)

/-- `INC A`, 0x3C (R195). -/
def exec_inc_a (s : State) : Result := stepReg inc8 .A s

/-- `DEC A`, 0x3D (R197). -/
def exec_dec_a (s : State) : Result := stepReg dec8 .A s

/-- `ADD A,B`, 0x80 (R171). -/
def exec_add_a_b (s : State) : Result := aluWith .add (.reg .B) s

/-- `ADD A,C`, 0x81 (R171). -/
def exec_add_a_c (s : State) : Result := aluWith .add (.reg .C) s

/-- `ADD A,D`, 0x82 (R171). -/
def exec_add_a_d (s : State) : Result := aluWith .add (.reg .D) s

/-- `ADD A,E`, 0x83 (R171). -/
def exec_add_a_e (s : State) : Result := aluWith .add (.reg .E) s

/-- `ADD A,H`, 0x84 (R171). -/
def exec_add_a_h (s : State) : Result := aluWith .add (.reg .H) s

/-- `ADD A,L`, 0x85 (R171). -/
def exec_add_a_l (s : State) : Result := aluWith .add (.reg .L) s

/-- `ADD A,(HL)`, 0x86 (R172). -/
def exec_add_a__hl (s : State) : Result := aluWith .add .atHL s

/-- `ADD A,A`, 0x87 (R171). -/
def exec_add_a_a (s : State) : Result := aluWith .add (.reg .A) s

/-- `ADC A,B`, 0x88 (R174). -/
def exec_adc_a_b (s : State) : Result := aluWith .adc (.reg .B) s

/-- `ADC A,C`, 0x89 (R174). -/
def exec_adc_a_c (s : State) : Result := aluWith .adc (.reg .C) s

/-- `ADC A,D`, 0x8A (R174). -/
def exec_adc_a_d (s : State) : Result := aluWith .adc (.reg .D) s

/-- `ADC A,E`, 0x8B (R174). -/
def exec_adc_a_e (s : State) : Result := aluWith .adc (.reg .E) s

/-- `ADC A,H`, 0x8C (R174). -/
def exec_adc_a_h (s : State) : Result := aluWith .adc (.reg .H) s

/-- `ADC A,L`, 0x8D (R174). -/
def exec_adc_a_l (s : State) : Result := aluWith .adc (.reg .L) s

/-- `ADC A,(HL)`, 0x8E (R175). -/
def exec_adc_a__hl (s : State) : Result := aluWith .adc .atHL s

/-- `ADC A,A`, 0x8F (R174). -/
def exec_adc_a_a (s : State) : Result := aluWith .adc (.reg .A) s

/-- `SUB B`, 0x90 (R177). -/
def exec_sub_b (s : State) : Result := aluWith .sub (.reg .B) s

/-- `SUB C`, 0x91 (R177). -/
def exec_sub_c (s : State) : Result := aluWith .sub (.reg .C) s

/-- `SUB D`, 0x92 (R177). -/
def exec_sub_d (s : State) : Result := aluWith .sub (.reg .D) s

/-- `SUB E`, 0x93 (R177). -/
def exec_sub_e (s : State) : Result := aluWith .sub (.reg .E) s

/-- `SUB H`, 0x94 (R177). -/
def exec_sub_h (s : State) : Result := aluWith .sub (.reg .H) s

/-- `SUB L`, 0x95 (R177). -/
def exec_sub_l (s : State) : Result := aluWith .sub (.reg .L) s

/-- `SUB (HL)`, 0x96 (R178). -/
def exec_sub__hl (s : State) : Result := aluWith .sub .atHL s

/-- `SUB A`, 0x97 (R177). -/
def exec_sub_a (s : State) : Result := aluWith .sub (.reg .A) s

/-- `SBC A,B`, 0x98 (R180). -/
def exec_sbc_a_b (s : State) : Result := aluWith .sbc (.reg .B) s

/-- `SBC A,C`, 0x99 (R180). -/
def exec_sbc_a_c (s : State) : Result := aluWith .sbc (.reg .C) s

/-- `SBC A,D`, 0x9A (R180). -/
def exec_sbc_a_d (s : State) : Result := aluWith .sbc (.reg .D) s

/-- `SBC A,E`, 0x9B (R180). -/
def exec_sbc_a_e (s : State) : Result := aluWith .sbc (.reg .E) s

/-- `SBC A,H`, 0x9C (R180). -/
def exec_sbc_a_h (s : State) : Result := aluWith .sbc (.reg .H) s

/-- `SBC A,L`, 0x9D (R180). -/
def exec_sbc_a_l (s : State) : Result := aluWith .sbc (.reg .L) s

/-- `SBC A,(HL)`, 0x9E (R181). -/
def exec_sbc_a__hl (s : State) : Result := aluWith .sbc .atHL s

/-- `SBC A,A`, 0x9F (R180). -/
def exec_sbc_a_a (s : State) : Result := aluWith .sbc (.reg .A) s

/-- `AND B`, 0xA0 (R183). -/
def exec_and_b (s : State) : Result := aluWith .and (.reg .B) s

/-- `AND C`, 0xA1 (R183). -/
def exec_and_c (s : State) : Result := aluWith .and (.reg .C) s

/-- `AND D`, 0xA2 (R183). -/
def exec_and_d (s : State) : Result := aluWith .and (.reg .D) s

/-- `AND E`, 0xA3 (R183). -/
def exec_and_e (s : State) : Result := aluWith .and (.reg .E) s

/-- `AND H`, 0xA4 (R183). -/
def exec_and_h (s : State) : Result := aluWith .and (.reg .H) s

/-- `AND L`, 0xA5 (R183). -/
def exec_and_l (s : State) : Result := aluWith .and (.reg .L) s

/-- `AND (HL)`, 0xA6 (R184). -/
def exec_and__hl (s : State) : Result := aluWith .and .atHL s

/-- `AND A`, 0xA7 (R183). -/
def exec_and_a (s : State) : Result := aluWith .and (.reg .A) s

/-- `XOR B`, 0xA8 (R186). -/
def exec_xor_b (s : State) : Result := aluWith .xor (.reg .B) s

/-- `XOR C`, 0xA9 (R186). -/
def exec_xor_c (s : State) : Result := aluWith .xor (.reg .C) s

/-- `XOR D`, 0xAA (R186). -/
def exec_xor_d (s : State) : Result := aluWith .xor (.reg .D) s

/-- `XOR E`, 0xAB (R186). -/
def exec_xor_e (s : State) : Result := aluWith .xor (.reg .E) s

/-- `XOR H`, 0xAC (R186). -/
def exec_xor_h (s : State) : Result := aluWith .xor (.reg .H) s

/-- `XOR L`, 0xAD (R186). -/
def exec_xor_l (s : State) : Result := aluWith .xor (.reg .L) s

/-- `XOR (HL)`, 0xAE (R187). -/
def exec_xor__hl (s : State) : Result := aluWith .xor .atHL s

/-- `XOR A`, 0xAF (R186). -/
def exec_xor_a (s : State) : Result := aluWith .xor (.reg .A) s

/-- `OR B`, 0xB0 (R189). -/
def exec_or_b (s : State) : Result := aluWith .or (.reg .B) s

/-- `OR C`, 0xB1 (R189). -/
def exec_or_c (s : State) : Result := aluWith .or (.reg .C) s

/-- `OR D`, 0xB2 (R189). -/
def exec_or_d (s : State) : Result := aluWith .or (.reg .D) s

/-- `OR E`, 0xB3 (R189). -/
def exec_or_e (s : State) : Result := aluWith .or (.reg .E) s

/-- `OR H`, 0xB4 (R189). -/
def exec_or_h (s : State) : Result := aluWith .or (.reg .H) s

/-- `OR L`, 0xB5 (R189). -/
def exec_or_l (s : State) : Result := aluWith .or (.reg .L) s

/-- `OR (HL)`, 0xB6 (R190). -/
def exec_or__hl (s : State) : Result := aluWith .or .atHL s

/-- `OR A`, 0xB7 (R189). -/
def exec_or_a (s : State) : Result := aluWith .or (.reg .A) s

/-- `CP B`, 0xB8 (R192). -/
def exec_cp_b (s : State) : Result := aluWith .cp (.reg .B) s

/-- `CP C`, 0xB9 (R192). -/
def exec_cp_c (s : State) : Result := aluWith .cp (.reg .C) s

/-- `CP D`, 0xBA (R192). -/
def exec_cp_d (s : State) : Result := aluWith .cp (.reg .D) s

/-- `CP E`, 0xBB (R192). -/
def exec_cp_e (s : State) : Result := aluWith .cp (.reg .E) s

/-- `CP H`, 0xBC (R192). -/
def exec_cp_h (s : State) : Result := aluWith .cp (.reg .H) s

/-- `CP L`, 0xBD (R192). -/
def exec_cp_l (s : State) : Result := aluWith .cp (.reg .L) s

/-- `CP (HL)`, 0xBE (R193). -/
def exec_cp__hl (s : State) : Result := aluWith .cp .atHL s

/-- `CP A`, 0xBF (R192). -/
def exec_cp_a (s : State) : Result := aluWith .cp (.reg .A) s

/-- `ADD A,n`, 0xC6 (R173). -/
def exec_add_a_n (n : Byte) (s : State) : Result := aluWith .add (.imm n) s

/-- `ADC A,n`, 0xCE (R176). -/
def exec_adc_a_n (n : Byte) (s : State) : Result := aluWith .adc (.imm n) s

/-- `SUB n`, 0xD6 (R179). -/
def exec_sub_n (n : Byte) (s : State) : Result := aluWith .sub (.imm n) s

/-- `SBC A,n`, 0xDE (R182). -/
def exec_sbc_a_n (n : Byte) (s : State) : Result := aluWith .sbc (.imm n) s

/-- `AND n`, 0xE6 (R185). -/
def exec_and_n (n : Byte) (s : State) : Result := aluWith .and (.imm n) s

/-- `XOR n`, 0xEE (R188). -/
def exec_xor_n (n : Byte) (s : State) : Result := aluWith .xor (.imm n) s

/-- `OR n`, 0xF6 (R191). -/
def exec_or_n (n : Byte) (s : State) : Result := aluWith .or (.imm n) s

/-- `CP n`, 0xFE (R194). -/
def exec_cp_n (n : Byte) (s : State) : Result := aluWith .cp (.imm n) s

end Sys2Proof.Machine
end

