-- ==== Sys2Proof/Machine/Control.lean ====
section
/-! DEFINITION. Control transfer (R240 to R252 of spec/45_control_transfer.md). No instruction here writes a flag. -/

namespace Sys2Proof.Machine

/-- `JP cc,nn`: the internal cycle and the jump only when the condition holds (R242). -/
def jumpIf (cc : Cond) (target : Word) (s : State) : Result :=
  .next (if condHolds cc s.regs.f then jumpTo target s else s)

/-- `CALL cc,nn`: not taken, SP and memory unchanged (R247). -/
def callIf (cc : Cond) (target : Word) (s : State) : Result :=
  .next (if condHolds cc s.regs.f then callTo target s else s)

/-- `RET cc`: one internal cycle always, the return only when the condition holds (R249). -/
def returnIf (cc : Cond) (s : State) : Result :=
  let s1 := tick s
  .next (if condHolds cc s1.regs.f then returnPc s1 else s1)

/-- `JR e`, 0x18 (R244). -/
def exec_jr_e (e : Byte) (s : State) : Result := .next (jumpTo (relativeTarget e s) s)

/-- `JR NZ,e`, 0x20 (R245). -/
def exec_jr_nz_e (e : Byte) (s : State) : Result := jumpIf .NZ (relativeTarget e s) s

/-- `JR Z,e`, 0x28 (R245). -/
def exec_jr_z_e (e : Byte) (s : State) : Result := jumpIf .Z (relativeTarget e s) s

/-- `JR NC,e`, 0x30 (R245). -/
def exec_jr_nc_e (e : Byte) (s : State) : Result := jumpIf .NC (relativeTarget e s) s

/-- `JR C,e`, 0x38 (R245). -/
def exec_jr_c_e (e : Byte) (s : State) : Result := jumpIf .C (relativeTarget e s) s

/-- `RET NZ`, 0xC0 (R249). -/
def exec_ret_nz (s : State) : Result := returnIf .NZ s

/-- `JP NZ,nn`, 0xC2 (R242). -/
def exec_jp_nz_nn (nn : Word) (s : State) : Result := jumpIf .NZ nn s

/-- `JP nn`, 0xC3 (R241). -/
def exec_jp_nn (nn : Word) (s : State) : Result := .next (jumpTo nn s)

/-- `CALL NZ,nn`, 0xC4 (R247). -/
def exec_call_nz_nn (nn : Word) (s : State) : Result := callIf .NZ nn s

/-- `RST 00H`, 0xC7 (R252). -/
def exec_rst_00h (s : State) : Result := .next (callTo (restartTarget .c0) s)

/-- `RET Z`, 0xC8 (R249). -/
def exec_ret_z (s : State) : Result := returnIf .Z s

/-- `RET`, 0xC9 (R248). -/
def exec_ret (s : State) : Result := .next (returnPc s)

/-- `JP Z,nn`, 0xCA (R242). -/
def exec_jp_z_nn (nn : Word) (s : State) : Result := jumpIf .Z nn s

/-- `CALL Z,nn`, 0xCC (R247). -/
def exec_call_z_nn (nn : Word) (s : State) : Result := callIf .Z nn s

/-- `CALL nn`, 0xCD (R246). -/
def exec_call_nn (nn : Word) (s : State) : Result := .next (callTo nn s)

/-- `RST 08H`, 0xCF (R252). -/
def exec_rst_08h (s : State) : Result := .next (callTo (restartTarget .c1) s)

/-- `RET NC`, 0xD0 (R249). -/
def exec_ret_nc (s : State) : Result := returnIf .NC s

/-- `JP NC,nn`, 0xD2 (R242). -/
def exec_jp_nc_nn (nn : Word) (s : State) : Result := jumpIf .NC nn s

/-- `CALL NC,nn`, 0xD4 (R247). -/
def exec_call_nc_nn (nn : Word) (s : State) : Result := callIf .NC nn s

/-- `RST 10H`, 0xD7 (R252). -/
def exec_rst_10h (s : State) : Result := .next (callTo (restartTarget .c2) s)

/-- `RET C`, 0xD8 (R249). -/
def exec_ret_c (s : State) : Result := returnIf .C s

/-- `RETI`, 0xD9 (R250). -/
def exec_reti (s : State) : Result := .next (returnFromInterrupt s)

/-- `JP C,nn`, 0xDA (R242). -/
def exec_jp_c_nn (nn : Word) (s : State) : Result := jumpIf .C nn s

/-- `CALL C,nn`, 0xDC (R247). -/
def exec_call_c_nn (nn : Word) (s : State) : Result := callIf .C nn s

/-- `RST 18H`, 0xDF (R252). -/
def exec_rst_18h (s : State) : Result := .next (callTo (restartTarget .c3) s)

/-- `RST 20H`, 0xE7 (R252). -/
def exec_rst_20h (s : State) : Result := .next (callTo (restartTarget .c4) s)

/-- `JP (HL)`, 0xE9 (R243). -/
def exec_jp__hl (s : State) : Result := .next (s.setPc s.hl)

/-- `RST 28H`, 0xEF (R252). -/
def exec_rst_28h (s : State) : Result := .next (callTo (restartTarget .c5) s)

/-- `RST 30H`, 0xF7 (R252). -/
def exec_rst_30h (s : State) : Result := .next (callTo (restartTarget .c6) s)

/-- `RST 38H`, 0xFF (R252). -/
def exec_rst_38h (s : State) : Result := .next (callTo (restartTarget .c7) s)

end Sys2Proof.Machine
end

