-- ==== Sys2Proof/Machine/Load16.lean ====
section
/-! DEFINITION. 16-bit loads and stack instructions (R150 to R156 of spec/41_load16_stack.md). -/

namespace Sys2Proof.Machine

/-- `LD dd,nn`: `rp[p] <- nn` (R150). -/
def ldPairNN (p : Pair) (nn : Word) (s : State) : Result := .next (s.setPair p nn)

/-- `LD SP,HL`: `SP <- HL; Tick()` (R151). -/
def ldSPHL (s : State) : Result := .next (tick (s.setSp s.hl))

/-- `LD (nn),SP`: low byte at `nn`, high byte at `nn + 1` (R152). -/
def ldNNSP (nn : Word) (s : State) : Result := .next (memWrite16 nn s.regs.sp s)

/-- `LDHL SP,e`: HL, then the flags of the low-byte addition, then `Tick()` (R153). -/
def ldhlSPE (e : Byte) (s : State) : Result :=
  .next (tick ((s.setPair .HL (s.regs.sp + signExtend16 e)).setFlags (spFlags s.regs.sp e)))

/-- `PUSH qq`: `Tick(); Push16(rp2[p])` (R154). -/
def pushPair (p : Pair) (s : State) : Result := .next (push16 (s.pair p) (tick s))

/-- `POP qq` and `POP AF`: `rp2[p] <- Pop16()`; a write of AF clears F[3:0] (R155, R156). -/
def popPair (p : Pair) (s : State) : Result :=
  let r := pop16 s
  .next (r.2.setPair p r.1)

/-- `LD BC,nn`, 0x01 (R150). -/
def exec_ld_bc_nn (nn : Word) (s : State) : Result := ldPairNN .BC nn s

/-- `LD (nn),SP`, 0x08 (R152). -/
def exec_ld__nn__sp (nn : Word) (s : State) : Result := ldNNSP nn s

/-- `LD DE,nn`, 0x11 (R150). -/
def exec_ld_de_nn (nn : Word) (s : State) : Result := ldPairNN .DE nn s

/-- `LD HL,nn`, 0x21 (R150). -/
def exec_ld_hl_nn (nn : Word) (s : State) : Result := ldPairNN .HL nn s

/-- `LD SP,nn`, 0x31 (R150). -/
def exec_ld_sp_nn (nn : Word) (s : State) : Result := ldPairNN .SP nn s

/-- `POP BC`, 0xC1 (R155). -/
def exec_pop_bc (s : State) : Result := popPair .BC s

/-- `PUSH BC`, 0xC5 (R154). -/
def exec_push_bc (s : State) : Result := pushPair .BC s

/-- `POP DE`, 0xD1 (R155). -/
def exec_pop_de (s : State) : Result := popPair .DE s

/-- `PUSH DE`, 0xD5 (R154). -/
def exec_push_de (s : State) : Result := pushPair .DE s

/-- `POP HL`, 0xE1 (R155). -/
def exec_pop_hl (s : State) : Result := popPair .HL s

/-- `PUSH HL`, 0xE5 (R154). -/
def exec_push_hl (s : State) : Result := pushPair .HL s

/-- `POP AF`, 0xF1 (R156). -/
def exec_pop_af (s : State) : Result := popPair .AF s

/-- `PUSH AF`, 0xF5 (R154). -/
def exec_push_af (s : State) : Result := pushPair .AF s

/-- `LDHL SP,e`, 0xF8 (R153). -/
def exec_ldhl_sp_e (e : Byte) (s : State) : Result := ldhlSPE e s

/-- `LD SP,HL`, 0xF9 (R151). -/
def exec_ld_sp_hl (s : State) : Result := ldSPHL s

end Sys2Proof.Machine
end

