-- ==== Sys2Proof/Machine/Load8.lean ====
section
/-! DEFINITION. 8-bit loads (R120 to R138 of spec/40_load8.md). The shared forms first, then one definition per row of the
opcode table. The immediate bytes were fetched with the instruction; PC is the address after it (R18). -/

namespace Sys2Proof.Machine

/-- `LD r,r'`: `r8[y] <- r8[z]` (R120). -/
def ldRR (d r : Reg8) (s : State) : Result := .next (s.setReg8 d (s.reg8 r))

/-- `LD r,n`: `r8[y] <- n` (R121). -/
def ldRN (d : Reg8) (n : Byte) (s : State) : Result := .next (s.setReg8 d n)

/-- A load of the byte at a memory operand into a register: the read, the register, then what the operand does to HL
(R122, R125, R126, R129, R131, R133, R135, R136). -/
def loadFrom (d : Reg8) (p : Place) (s : State) : Result :=
  let r := memRead (p.address s) s
  .next (p.after (r.2.setReg8 d r.1))

/-- A store of `v` at a memory operand, then what the operand does to HL (R123, R124, R127, R128, R130, R132, R134,
R137, R138). -/
def storeTo (p : Place) (v : Byte) (s : State) : Result := .next (p.after (memWrite (p.address s) v s))

/-- `LD (BC),A`, 0x02 (R127). -/
def exec_ld__bc__a (s : State) : Result := storeTo (.pair .BC) s.regs.a s

/-- `LD B,n`, 0x06 (R121). -/
def exec_ld_b_n (n : Byte) (s : State) : Result := ldRN .B n s

/-- `LD A,(BC)`, 0x0A (R125). -/
def exec_ld_a__bc (s : State) : Result := loadFrom .A (.pair .BC) s

/-- `LD C,n`, 0x0E (R121). -/
def exec_ld_c_n (n : Byte) (s : State) : Result := ldRN .C n s

/-- `LD (DE),A`, 0x12 (R128). -/
def exec_ld__de__a (s : State) : Result := storeTo (.pair .DE) s.regs.a s

/-- `LD D,n`, 0x16 (R121). -/
def exec_ld_d_n (n : Byte) (s : State) : Result := ldRN .D n s

/-- `LD A,(DE)`, 0x1A (R126). -/
def exec_ld_a__de (s : State) : Result := loadFrom .A (.pair .DE) s

/-- `LD E,n`, 0x1E (R121). -/
def exec_ld_e_n (n : Byte) (s : State) : Result := ldRN .E n s

/-- `LD (HLI),A`, 0x22 (R137). -/
def exec_ld__hli__a (s : State) : Result := storeTo .hlInc s.regs.a s

/-- `LD H,n`, 0x26 (R121). -/
def exec_ld_h_n (n : Byte) (s : State) : Result := ldRN .H n s

/-- `LD A,(HLI)`, 0x2A (R135). -/
def exec_ld_a__hli (s : State) : Result := loadFrom .A .hlInc s

/-- `LD L,n`, 0x2E (R121). -/
def exec_ld_l_n (n : Byte) (s : State) : Result := ldRN .L n s

/-- `LD (HLD),A`, 0x32 (R138). -/
def exec_ld__hld__a (s : State) : Result := storeTo .hlDec s.regs.a s

/-- `LD (HL),n`, 0x36 (R124). -/
def exec_ld__hl__n (n : Byte) (s : State) : Result := storeTo (.pair .HL) n s

/-- `LD A,(HLD)`, 0x3A (R136). -/
def exec_ld_a__hld (s : State) : Result := loadFrom .A .hlDec s

/-- `LD A,n`, 0x3E (R121). -/
def exec_ld_a_n (n : Byte) (s : State) : Result := ldRN .A n s

/-- `LD B,B`, 0x40 (R120). -/
def exec_ld_b_b (s : State) : Result := ldRR .B .B s

/-- `LD B,C`, 0x41 (R120). -/
def exec_ld_b_c (s : State) : Result := ldRR .B .C s

/-- `LD B,D`, 0x42 (R120). -/
def exec_ld_b_d (s : State) : Result := ldRR .B .D s

/-- `LD B,E`, 0x43 (R120). -/
def exec_ld_b_e (s : State) : Result := ldRR .B .E s

/-- `LD B,H`, 0x44 (R120). -/
def exec_ld_b_h (s : State) : Result := ldRR .B .H s

/-- `LD B,L`, 0x45 (R120). -/
def exec_ld_b_l (s : State) : Result := ldRR .B .L s

/-- `LD B,(HL)`, 0x46 (R122). -/
def exec_ld_b__hl (s : State) : Result := loadFrom .B (.pair .HL) s

/-- `LD B,A`, 0x47 (R120). -/
def exec_ld_b_a (s : State) : Result := ldRR .B .A s

/-- `LD C,B`, 0x48 (R120). -/
def exec_ld_c_b (s : State) : Result := ldRR .C .B s

/-- `LD C,C`, 0x49 (R120). -/
def exec_ld_c_c (s : State) : Result := ldRR .C .C s

/-- `LD C,D`, 0x4A (R120). -/
def exec_ld_c_d (s : State) : Result := ldRR .C .D s

/-- `LD C,E`, 0x4B (R120). -/
def exec_ld_c_e (s : State) : Result := ldRR .C .E s

/-- `LD C,H`, 0x4C (R120). -/
def exec_ld_c_h (s : State) : Result := ldRR .C .H s

/-- `LD C,L`, 0x4D (R120). -/
def exec_ld_c_l (s : State) : Result := ldRR .C .L s

/-- `LD C,(HL)`, 0x4E (R122). -/
def exec_ld_c__hl (s : State) : Result := loadFrom .C (.pair .HL) s

/-- `LD C,A`, 0x4F (R120). -/
def exec_ld_c_a (s : State) : Result := ldRR .C .A s

/-- `LD D,B`, 0x50 (R120). -/
def exec_ld_d_b (s : State) : Result := ldRR .D .B s

/-- `LD D,C`, 0x51 (R120). -/
def exec_ld_d_c (s : State) : Result := ldRR .D .C s

/-- `LD D,D`, 0x52 (R120). -/
def exec_ld_d_d (s : State) : Result := ldRR .D .D s

/-- `LD D,E`, 0x53 (R120). -/
def exec_ld_d_e (s : State) : Result := ldRR .D .E s

/-- `LD D,H`, 0x54 (R120). -/
def exec_ld_d_h (s : State) : Result := ldRR .D .H s

/-- `LD D,L`, 0x55 (R120). -/
def exec_ld_d_l (s : State) : Result := ldRR .D .L s

/-- `LD D,(HL)`, 0x56 (R122). -/
def exec_ld_d__hl (s : State) : Result := loadFrom .D (.pair .HL) s

/-- `LD D,A`, 0x57 (R120). -/
def exec_ld_d_a (s : State) : Result := ldRR .D .A s

/-- `LD E,B`, 0x58 (R120). -/
def exec_ld_e_b (s : State) : Result := ldRR .E .B s

/-- `LD E,C`, 0x59 (R120). -/
def exec_ld_e_c (s : State) : Result := ldRR .E .C s

/-- `LD E,D`, 0x5A (R120). -/
def exec_ld_e_d (s : State) : Result := ldRR .E .D s

/-- `LD E,E`, 0x5B (R120). -/
def exec_ld_e_e (s : State) : Result := ldRR .E .E s

/-- `LD E,H`, 0x5C (R120). -/
def exec_ld_e_h (s : State) : Result := ldRR .E .H s

/-- `LD E,L`, 0x5D (R120). -/
def exec_ld_e_l (s : State) : Result := ldRR .E .L s

/-- `LD E,(HL)`, 0x5E (R122). -/
def exec_ld_e__hl (s : State) : Result := loadFrom .E (.pair .HL) s

/-- `LD E,A`, 0x5F (R120). -/
def exec_ld_e_a (s : State) : Result := ldRR .E .A s

/-- `LD H,B`, 0x60 (R120). -/
def exec_ld_h_b (s : State) : Result := ldRR .H .B s

/-- `LD H,C`, 0x61 (R120). -/
def exec_ld_h_c (s : State) : Result := ldRR .H .C s

/-- `LD H,D`, 0x62 (R120). -/
def exec_ld_h_d (s : State) : Result := ldRR .H .D s

/-- `LD H,E`, 0x63 (R120). -/
def exec_ld_h_e (s : State) : Result := ldRR .H .E s

/-- `LD H,H`, 0x64 (R120). -/
def exec_ld_h_h (s : State) : Result := ldRR .H .H s

/-- `LD H,L`, 0x65 (R120). -/
def exec_ld_h_l (s : State) : Result := ldRR .H .L s

/-- `LD H,(HL)`, 0x66 (R122). -/
def exec_ld_h__hl (s : State) : Result := loadFrom .H (.pair .HL) s

/-- `LD H,A`, 0x67 (R120). -/
def exec_ld_h_a (s : State) : Result := ldRR .H .A s

/-- `LD L,B`, 0x68 (R120). -/
def exec_ld_l_b (s : State) : Result := ldRR .L .B s

/-- `LD L,C`, 0x69 (R120). -/
def exec_ld_l_c (s : State) : Result := ldRR .L .C s

/-- `LD L,D`, 0x6A (R120). -/
def exec_ld_l_d (s : State) : Result := ldRR .L .D s

/-- `LD L,E`, 0x6B (R120). -/
def exec_ld_l_e (s : State) : Result := ldRR .L .E s

/-- `LD L,H`, 0x6C (R120). -/
def exec_ld_l_h (s : State) : Result := ldRR .L .H s

/-- `LD L,L`, 0x6D (R120). -/
def exec_ld_l_l (s : State) : Result := ldRR .L .L s

/-- `LD L,(HL)`, 0x6E (R122). -/
def exec_ld_l__hl (s : State) : Result := loadFrom .L (.pair .HL) s

/-- `LD L,A`, 0x6F (R120). -/
def exec_ld_l_a (s : State) : Result := ldRR .L .A s

/-- `LD (HL),B`, 0x70 (R123). -/
def exec_ld__hl__b (s : State) : Result := storeTo (.pair .HL) (s.reg8 .B) s

/-- `LD (HL),C`, 0x71 (R123). -/
def exec_ld__hl__c (s : State) : Result := storeTo (.pair .HL) (s.reg8 .C) s

/-- `LD (HL),D`, 0x72 (R123). -/
def exec_ld__hl__d (s : State) : Result := storeTo (.pair .HL) (s.reg8 .D) s

/-- `LD (HL),E`, 0x73 (R123). -/
def exec_ld__hl__e (s : State) : Result := storeTo (.pair .HL) (s.reg8 .E) s

/-- `LD (HL),H`, 0x74 (R123). -/
def exec_ld__hl__h (s : State) : Result := storeTo (.pair .HL) (s.reg8 .H) s

/-- `LD (HL),L`, 0x75 (R123). -/
def exec_ld__hl__l (s : State) : Result := storeTo (.pair .HL) (s.reg8 .L) s

/-- `LD (HL),A`, 0x77 (R123). -/
def exec_ld__hl__a (s : State) : Result := storeTo (.pair .HL) (s.reg8 .A) s

/-- `LD A,B`, 0x78 (R120). -/
def exec_ld_a_b (s : State) : Result := ldRR .A .B s

/-- `LD A,C`, 0x79 (R120). -/
def exec_ld_a_c (s : State) : Result := ldRR .A .C s

/-- `LD A,D`, 0x7A (R120). -/
def exec_ld_a_d (s : State) : Result := ldRR .A .D s

/-- `LD A,E`, 0x7B (R120). -/
def exec_ld_a_e (s : State) : Result := ldRR .A .E s

/-- `LD A,H`, 0x7C (R120). -/
def exec_ld_a_h (s : State) : Result := ldRR .A .H s

/-- `LD A,L`, 0x7D (R120). -/
def exec_ld_a_l (s : State) : Result := ldRR .A .L s

/-- `LD A,(HL)`, 0x7E (R122). -/
def exec_ld_a__hl (s : State) : Result := loadFrom .A (.pair .HL) s

/-- `LD A,A`, 0x7F (R120). -/
def exec_ld_a_a (s : State) : Result := ldRR .A .A s

/-- `LD (n),A`, 0xE0 (R134). -/
def exec_ld__n__a (n : Byte) (s : State) : Result := storeTo (.page n) s.regs.a s

/-- `LD (C),A`, 0xE2 (R132). -/
def exec_ld__c__a (s : State) : Result := storeTo .pageC s.regs.a s

/-- `LD (nn),A`, 0xEA (R130). -/
def exec_ld__nn__a (nn : Word) (s : State) : Result := storeTo (.abs nn) s.regs.a s

/-- `LD A,(n)`, 0xF0 (R133). -/
def exec_ld_a__n (n : Byte) (s : State) : Result := loadFrom .A (.page n) s

/-- `LD A,(C)`, 0xF2 (R131). -/
def exec_ld_a__c (s : State) : Result := loadFrom .A .pageC s

/-- `LD A,(nn)`, 0xFA (R129). -/
def exec_ld_a__nn (nn : Word) (s : State) : Result := loadFrom .A (.abs nn) s

end Sys2Proof.Machine
end

