-- ==== Sys2Proof/Machine/Misc.lean ====
section
/-! DEFINITION. Miscellaneous and CPU control (R260 to R269 of spec/46_misc_control.md), with the undefined opcodes. -/

namespace Sys2Proof.Machine

/-- An undefined opcode raises `UnimplementedInstruction(op, pc0)` (R269): the next state is `Faulted` (log 13). -/
def undefinedOpcode (op : Byte) (s : State) : Result := .next (raiseUnimplemented op s)

/-- `NOP`, 0x00 (R260). -/
def exec_nop (s : State) : Result := .next s

/-- `STOP`, 0x10 (R268). -/
def exec_stop (s : State) : Result := .next ((s.setPc (s.regs.pc + 1)).setRun .stopped)

/-- `DAA`, 0x27 (R261). -/
def exec_daa (s : State) : Result :=
  .next ((s.setA (daaApply s.regs.a s.regs.f).res).setFlags (daaApply s.regs.a s.regs.f).flags)

/-- `CPL`, 0x2F (R262). -/
def exec_cpl (s : State) : Result := .next ((s.setA (~~~ s.regs.a)).setFlags { s.regs.f with n := true, h := true })

/-- `SCF`, 0x37 (R264). -/
def exec_scf (s : State) : Result := .next (s.setFlags { s.regs.f with n := false, h := false, c := true })

/-- `CCF`, 0x3F (R263). -/
def exec_ccf (s : State) : Result := .next (s.setFlags { s.regs.f with n := false, h := false, c := !s.regs.f.c })

/-- `HALT`, 0x76 (R267). -/
def exec_halt (s : State) : Result := .next (s.setRun .halted)

/-- `(undefined 0xD3)`, 0xD3 (R269). -/
def exec_undefined_0xd3 (s : State) : Result := undefinedOpcode 0xD3 s

/-- `(undefined 0xDB)`, 0xDB (R269). -/
def exec_undefined_0xdb (s : State) : Result := undefinedOpcode 0xDB s

/-- `(undefined 0xDD)`, 0xDD (R269). -/
def exec_undefined_0xdd (s : State) : Result := undefinedOpcode 0xDD s

/-- `(undefined 0xE3)`, 0xE3 (R269). -/
def exec_undefined_0xe3 (s : State) : Result := undefinedOpcode 0xE3 s

/-- `(undefined 0xE4)`, 0xE4 (R269). -/
def exec_undefined_0xe4 (s : State) : Result := undefinedOpcode 0xE4 s

/-- `(undefined 0xEB)`, 0xEB (R269). -/
def exec_undefined_0xeb (s : State) : Result := undefinedOpcode 0xEB s

/-- `(undefined 0xEC)`, 0xEC (R269). -/
def exec_undefined_0xec (s : State) : Result := undefinedOpcode 0xEC s

/-- `(undefined 0xED)`, 0xED (R269). -/
def exec_undefined_0xed (s : State) : Result := undefinedOpcode 0xED s

/-- `DI`, 0xF3 (R265). -/
def exec_di (s : State) : Result := .next ((s.setIme false).setEiPending false)

/-- `(undefined 0xF4)`, 0xF4 (R269). -/
def exec_undefined_0xf4 (s : State) : Result := undefinedOpcode 0xF4 s

/-- `EI`, 0xFB (R266). -/
def exec_ei (s : State) : Result := .next (s.setEiPending true)

/-- `(undefined 0xFC)`, 0xFC (R269). -/
def exec_undefined_0xfc (s : State) : Result := undefinedOpcode 0xFC s

/-- `(undefined 0xFD)`, 0xFD (R269). -/
def exec_undefined_0xfd (s : State) : Result := undefinedOpcode 0xFD s

end Sys2Proof.Machine
end

