-- ==== Sys2Proof/Machine/RotateBit.lean ====
section
/-! DEFINITION. Rotates, shifts and bit instructions (R210 to R236 of spec/44_rotate_shift_bit.md). -/

namespace Sys2Proof.Machine

/-- `RLCA`, `RLA`, `RRCA`, `RRA`: A, and the flags with Z = 0 (R210 to R213). -/
def rotateA (op : ShiftOp) (s : State) : Result :=
  let x := shiftApply op s.regs.a s.regs.f.c
  .next ((s.setA x.res).setFlags x.accumulatorFlags)

/-- A rotate or shift of a register (R215 to R229, odd rules). -/
def shiftR (op : ShiftOp) (r : Reg8) (s : State) : Result :=
  let x := shiftApply op (s.reg8 r) s.regs.f.c
  .next ((s.setReg8 r x.res).setFlags x.flags)

/-- A rotate or shift of the byte at HL (R216 to R230, even rules). -/
def shiftHL (op : ShiftOp) (s : State) : Result :=
  .next (modifyHL (fun v f => { res := (shiftApply op v f.c).res, flags := (shiftApply op v f.c).flags }) s)

/-- `BIT b,r` (R231). -/
def bitR (b : Code3) (r : Reg8) (s : State) : Result := .next (s.setFlags (bitTestFlags b (s.reg8 r) s.regs.f))

/-- `BIT b,(HL)`: one read, no write (R232). -/
def bitHL (b : Code3) (s : State) : Result :=
  let x := memRead s.hl s
  .next (x.2.setFlags (bitTestFlags b x.1 x.2.regs.f))

/-- `RES b,r` (R233). -/
def resR (b : Code3) (r : Reg8) (s : State) : Result := .next (s.setReg8 r (clearBit b (s.reg8 r)))

/-- `RES b,(HL)` (R234): no flags. -/
def resHL (b : Code3) (s : State) : Result := .next (modifyHL (fun v f => { res := clearBit b v, flags := f }) s)

/-- `SET b,r` (R235). -/
def setR (b : Code3) (r : Reg8) (s : State) : Result := .next (s.setReg8 r (raiseBit b (s.reg8 r)))

/-- `SET b,(HL)` (R236): no flags. -/
def setHL (b : Code3) (s : State) : Result := .next (modifyHL (fun v f => { res := raiseBit b v, flags := f }) s)

/-- `RLCA`, 0x07 (R210). -/
def exec_rlca (s : State) : Result := rotateA .rlc s

/-- `RRCA`, 0x0F (R212). -/
def exec_rrca (s : State) : Result := rotateA .rrc s

/-- `RLA`, 0x17 (R211). -/
def exec_rla (s : State) : Result := rotateA .rl s

/-- `RRA`, 0x1F (R213). -/
def exec_rra (s : State) : Result := rotateA .rr s

/-- `RLC B`, 0xCB 0x00 (R215). -/
def exec_rlc_b (s : State) : Result := shiftR .rlc .B s

/-- `RLC C`, 0xCB 0x01 (R215). -/
def exec_rlc_c (s : State) : Result := shiftR .rlc .C s

/-- `RLC D`, 0xCB 0x02 (R215). -/
def exec_rlc_d (s : State) : Result := shiftR .rlc .D s

/-- `RLC E`, 0xCB 0x03 (R215). -/
def exec_rlc_e (s : State) : Result := shiftR .rlc .E s

/-- `RLC H`, 0xCB 0x04 (R215). -/
def exec_rlc_h (s : State) : Result := shiftR .rlc .H s

/-- `RLC L`, 0xCB 0x05 (R215). -/
def exec_rlc_l (s : State) : Result := shiftR .rlc .L s

/-- `RLC (HL)`, 0xCB 0x06 (R216). -/
def exec_rlc__hl (s : State) : Result := shiftHL .rlc s

/-- `RLC A`, 0xCB 0x07 (R215). -/
def exec_rlc_a (s : State) : Result := shiftR .rlc .A s

/-- `RRC B`, 0xCB 0x08 (R217). -/
def exec_rrc_b (s : State) : Result := shiftR .rrc .B s

/-- `RRC C`, 0xCB 0x09 (R217). -/
def exec_rrc_c (s : State) : Result := shiftR .rrc .C s

/-- `RRC D`, 0xCB 0x0A (R217). -/
def exec_rrc_d (s : State) : Result := shiftR .rrc .D s

/-- `RRC E`, 0xCB 0x0B (R217). -/
def exec_rrc_e (s : State) : Result := shiftR .rrc .E s

/-- `RRC H`, 0xCB 0x0C (R217). -/
def exec_rrc_h (s : State) : Result := shiftR .rrc .H s

/-- `RRC L`, 0xCB 0x0D (R217). -/
def exec_rrc_l (s : State) : Result := shiftR .rrc .L s

/-- `RRC (HL)`, 0xCB 0x0E (R218). -/
def exec_rrc__hl (s : State) : Result := shiftHL .rrc s

/-- `RRC A`, 0xCB 0x0F (R217). -/
def exec_rrc_a (s : State) : Result := shiftR .rrc .A s

/-- `RL B`, 0xCB 0x10 (R219). -/
def exec_rl_b (s : State) : Result := shiftR .rl .B s

/-- `RL C`, 0xCB 0x11 (R219). -/
def exec_rl_c (s : State) : Result := shiftR .rl .C s

/-- `RL D`, 0xCB 0x12 (R219). -/
def exec_rl_d (s : State) : Result := shiftR .rl .D s

/-- `RL E`, 0xCB 0x13 (R219). -/
def exec_rl_e (s : State) : Result := shiftR .rl .E s

/-- `RL H`, 0xCB 0x14 (R219). -/
def exec_rl_h (s : State) : Result := shiftR .rl .H s

/-- `RL L`, 0xCB 0x15 (R219). -/
def exec_rl_l (s : State) : Result := shiftR .rl .L s

/-- `RL (HL)`, 0xCB 0x16 (R220). -/
def exec_rl__hl (s : State) : Result := shiftHL .rl s

/-- `RL A`, 0xCB 0x17 (R219). -/
def exec_rl_a (s : State) : Result := shiftR .rl .A s

/-- `RR B`, 0xCB 0x18 (R221). -/
def exec_rr_b (s : State) : Result := shiftR .rr .B s

/-- `RR C`, 0xCB 0x19 (R221). -/
def exec_rr_c (s : State) : Result := shiftR .rr .C s

/-- `RR D`, 0xCB 0x1A (R221). -/
def exec_rr_d (s : State) : Result := shiftR .rr .D s

/-- `RR E`, 0xCB 0x1B (R221). -/
def exec_rr_e (s : State) : Result := shiftR .rr .E s

/-- `RR H`, 0xCB 0x1C (R221). -/
def exec_rr_h (s : State) : Result := shiftR .rr .H s

/-- `RR L`, 0xCB 0x1D (R221). -/
def exec_rr_l (s : State) : Result := shiftR .rr .L s

/-- `RR (HL)`, 0xCB 0x1E (R222). -/
def exec_rr__hl (s : State) : Result := shiftHL .rr s

/-- `RR A`, 0xCB 0x1F (R221). -/
def exec_rr_a (s : State) : Result := shiftR .rr .A s

/-- `SLA B`, 0xCB 0x20 (R223). -/
def exec_sla_b (s : State) : Result := shiftR .sla .B s

/-- `SLA C`, 0xCB 0x21 (R223). -/
def exec_sla_c (s : State) : Result := shiftR .sla .C s

/-- `SLA D`, 0xCB 0x22 (R223). -/
def exec_sla_d (s : State) : Result := shiftR .sla .D s

/-- `SLA E`, 0xCB 0x23 (R223). -/
def exec_sla_e (s : State) : Result := shiftR .sla .E s

/-- `SLA H`, 0xCB 0x24 (R223). -/
def exec_sla_h (s : State) : Result := shiftR .sla .H s

/-- `SLA L`, 0xCB 0x25 (R223). -/
def exec_sla_l (s : State) : Result := shiftR .sla .L s

/-- `SLA (HL)`, 0xCB 0x26 (R224). -/
def exec_sla__hl (s : State) : Result := shiftHL .sla s

/-- `SLA A`, 0xCB 0x27 (R223). -/
def exec_sla_a (s : State) : Result := shiftR .sla .A s

/-- `SRA B`, 0xCB 0x28 (R225). -/
def exec_sra_b (s : State) : Result := shiftR .sra .B s

/-- `SRA C`, 0xCB 0x29 (R225). -/
def exec_sra_c (s : State) : Result := shiftR .sra .C s

/-- `SRA D`, 0xCB 0x2A (R225). -/
def exec_sra_d (s : State) : Result := shiftR .sra .D s

/-- `SRA E`, 0xCB 0x2B (R225). -/
def exec_sra_e (s : State) : Result := shiftR .sra .E s

/-- `SRA H`, 0xCB 0x2C (R225). -/
def exec_sra_h (s : State) : Result := shiftR .sra .H s

/-- `SRA L`, 0xCB 0x2D (R225). -/
def exec_sra_l (s : State) : Result := shiftR .sra .L s

/-- `SRA (HL)`, 0xCB 0x2E (R226). -/
def exec_sra__hl (s : State) : Result := shiftHL .sra s

/-- `SRA A`, 0xCB 0x2F (R225). -/
def exec_sra_a (s : State) : Result := shiftR .sra .A s

/-- `SWAP B`, 0xCB 0x30 (R227). -/
def exec_swap_b (s : State) : Result := shiftR .swap .B s

/-- `SWAP C`, 0xCB 0x31 (R227). -/
def exec_swap_c (s : State) : Result := shiftR .swap .C s

/-- `SWAP D`, 0xCB 0x32 (R227). -/
def exec_swap_d (s : State) : Result := shiftR .swap .D s

/-- `SWAP E`, 0xCB 0x33 (R227). -/
def exec_swap_e (s : State) : Result := shiftR .swap .E s

/-- `SWAP H`, 0xCB 0x34 (R227). -/
def exec_swap_h (s : State) : Result := shiftR .swap .H s

/-- `SWAP L`, 0xCB 0x35 (R227). -/
def exec_swap_l (s : State) : Result := shiftR .swap .L s

/-- `SWAP (HL)`, 0xCB 0x36 (R228). -/
def exec_swap__hl (s : State) : Result := shiftHL .swap s

/-- `SWAP A`, 0xCB 0x37 (R227). -/
def exec_swap_a (s : State) : Result := shiftR .swap .A s

/-- `SRL B`, 0xCB 0x38 (R229). -/
def exec_srl_b (s : State) : Result := shiftR .srl .B s

/-- `SRL C`, 0xCB 0x39 (R229). -/
def exec_srl_c (s : State) : Result := shiftR .srl .C s

/-- `SRL D`, 0xCB 0x3A (R229). -/
def exec_srl_d (s : State) : Result := shiftR .srl .D s

/-- `SRL E`, 0xCB 0x3B (R229). -/
def exec_srl_e (s : State) : Result := shiftR .srl .E s

/-- `SRL H`, 0xCB 0x3C (R229). -/
def exec_srl_h (s : State) : Result := shiftR .srl .H s

/-- `SRL L`, 0xCB 0x3D (R229). -/
def exec_srl_l (s : State) : Result := shiftR .srl .L s

/-- `SRL (HL)`, 0xCB 0x3E (R230). -/
def exec_srl__hl (s : State) : Result := shiftHL .srl s

/-- `SRL A`, 0xCB 0x3F (R229). -/
def exec_srl_a (s : State) : Result := shiftR .srl .A s

/-- `BIT 0,B`, 0xCB 0x40 (R231). -/
def exec_bit_0_b (s : State) : Result := bitR .c0 .B s

/-- `BIT 0,C`, 0xCB 0x41 (R231). -/
def exec_bit_0_c (s : State) : Result := bitR .c0 .C s

/-- `BIT 0,D`, 0xCB 0x42 (R231). -/
def exec_bit_0_d (s : State) : Result := bitR .c0 .D s

/-- `BIT 0,E`, 0xCB 0x43 (R231). -/
def exec_bit_0_e (s : State) : Result := bitR .c0 .E s

/-- `BIT 0,H`, 0xCB 0x44 (R231). -/
def exec_bit_0_h (s : State) : Result := bitR .c0 .H s

/-- `BIT 0,L`, 0xCB 0x45 (R231). -/
def exec_bit_0_l (s : State) : Result := bitR .c0 .L s

/-- `BIT 0,(HL)`, 0xCB 0x46 (R232). -/
def exec_bit_0__hl (s : State) : Result := bitHL .c0 s

/-- `BIT 0,A`, 0xCB 0x47 (R231). -/
def exec_bit_0_a (s : State) : Result := bitR .c0 .A s

/-- `BIT 1,B`, 0xCB 0x48 (R231). -/
def exec_bit_1_b (s : State) : Result := bitR .c1 .B s

/-- `BIT 1,C`, 0xCB 0x49 (R231). -/
def exec_bit_1_c (s : State) : Result := bitR .c1 .C s

/-- `BIT 1,D`, 0xCB 0x4A (R231). -/
def exec_bit_1_d (s : State) : Result := bitR .c1 .D s

/-- `BIT 1,E`, 0xCB 0x4B (R231). -/
def exec_bit_1_e (s : State) : Result := bitR .c1 .E s

/-- `BIT 1,H`, 0xCB 0x4C (R231). -/
def exec_bit_1_h (s : State) : Result := bitR .c1 .H s

/-- `BIT 1,L`, 0xCB 0x4D (R231). -/
def exec_bit_1_l (s : State) : Result := bitR .c1 .L s

/-- `BIT 1,(HL)`, 0xCB 0x4E (R232). -/
def exec_bit_1__hl (s : State) : Result := bitHL .c1 s

/-- `BIT 1,A`, 0xCB 0x4F (R231). -/
def exec_bit_1_a (s : State) : Result := bitR .c1 .A s

/-- `BIT 2,B`, 0xCB 0x50 (R231). -/
def exec_bit_2_b (s : State) : Result := bitR .c2 .B s

/-- `BIT 2,C`, 0xCB 0x51 (R231). -/
def exec_bit_2_c (s : State) : Result := bitR .c2 .C s

/-- `BIT 2,D`, 0xCB 0x52 (R231). -/
def exec_bit_2_d (s : State) : Result := bitR .c2 .D s

/-- `BIT 2,E`, 0xCB 0x53 (R231). -/
def exec_bit_2_e (s : State) : Result := bitR .c2 .E s

/-- `BIT 2,H`, 0xCB 0x54 (R231). -/
def exec_bit_2_h (s : State) : Result := bitR .c2 .H s

/-- `BIT 2,L`, 0xCB 0x55 (R231). -/
def exec_bit_2_l (s : State) : Result := bitR .c2 .L s

/-- `BIT 2,(HL)`, 0xCB 0x56 (R232). -/
def exec_bit_2__hl (s : State) : Result := bitHL .c2 s

/-- `BIT 2,A`, 0xCB 0x57 (R231). -/
def exec_bit_2_a (s : State) : Result := bitR .c2 .A s

/-- `BIT 3,B`, 0xCB 0x58 (R231). -/
def exec_bit_3_b (s : State) : Result := bitR .c3 .B s

/-- `BIT 3,C`, 0xCB 0x59 (R231). -/
def exec_bit_3_c (s : State) : Result := bitR .c3 .C s

/-- `BIT 3,D`, 0xCB 0x5A (R231). -/
def exec_bit_3_d (s : State) : Result := bitR .c3 .D s

/-- `BIT 3,E`, 0xCB 0x5B (R231). -/
def exec_bit_3_e (s : State) : Result := bitR .c3 .E s

/-- `BIT 3,H`, 0xCB 0x5C (R231). -/
def exec_bit_3_h (s : State) : Result := bitR .c3 .H s

/-- `BIT 3,L`, 0xCB 0x5D (R231). -/
def exec_bit_3_l (s : State) : Result := bitR .c3 .L s

/-- `BIT 3,(HL)`, 0xCB 0x5E (R232). -/
def exec_bit_3__hl (s : State) : Result := bitHL .c3 s

/-- `BIT 3,A`, 0xCB 0x5F (R231). -/
def exec_bit_3_a (s : State) : Result := bitR .c3 .A s

/-- `BIT 4,B`, 0xCB 0x60 (R231). -/
def exec_bit_4_b (s : State) : Result := bitR .c4 .B s

/-- `BIT 4,C`, 0xCB 0x61 (R231). -/
def exec_bit_4_c (s : State) : Result := bitR .c4 .C s

/-- `BIT 4,D`, 0xCB 0x62 (R231). -/
def exec_bit_4_d (s : State) : Result := bitR .c4 .D s

/-- `BIT 4,E`, 0xCB 0x63 (R231). -/
def exec_bit_4_e (s : State) : Result := bitR .c4 .E s

/-- `BIT 4,H`, 0xCB 0x64 (R231). -/
def exec_bit_4_h (s : State) : Result := bitR .c4 .H s

/-- `BIT 4,L`, 0xCB 0x65 (R231). -/
def exec_bit_4_l (s : State) : Result := bitR .c4 .L s

/-- `BIT 4,(HL)`, 0xCB 0x66 (R232). -/
def exec_bit_4__hl (s : State) : Result := bitHL .c4 s

/-- `BIT 4,A`, 0xCB 0x67 (R231). -/
def exec_bit_4_a (s : State) : Result := bitR .c4 .A s

/-- `BIT 5,B`, 0xCB 0x68 (R231). -/
def exec_bit_5_b (s : State) : Result := bitR .c5 .B s

/-- `BIT 5,C`, 0xCB 0x69 (R231). -/
def exec_bit_5_c (s : State) : Result := bitR .c5 .C s

/-- `BIT 5,D`, 0xCB 0x6A (R231). -/
def exec_bit_5_d (s : State) : Result := bitR .c5 .D s

/-- `BIT 5,E`, 0xCB 0x6B (R231). -/
def exec_bit_5_e (s : State) : Result := bitR .c5 .E s

/-- `BIT 5,H`, 0xCB 0x6C (R231). -/
def exec_bit_5_h (s : State) : Result := bitR .c5 .H s

/-- `BIT 5,L`, 0xCB 0x6D (R231). -/
def exec_bit_5_l (s : State) : Result := bitR .c5 .L s

/-- `BIT 5,(HL)`, 0xCB 0x6E (R232). -/
def exec_bit_5__hl (s : State) : Result := bitHL .c5 s

/-- `BIT 5,A`, 0xCB 0x6F (R231). -/
def exec_bit_5_a (s : State) : Result := bitR .c5 .A s

/-- `BIT 6,B`, 0xCB 0x70 (R231). -/
def exec_bit_6_b (s : State) : Result := bitR .c6 .B s

/-- `BIT 6,C`, 0xCB 0x71 (R231). -/
def exec_bit_6_c (s : State) : Result := bitR .c6 .C s

/-- `BIT 6,D`, 0xCB 0x72 (R231). -/
def exec_bit_6_d (s : State) : Result := bitR .c6 .D s

/-- `BIT 6,E`, 0xCB 0x73 (R231). -/
def exec_bit_6_e (s : State) : Result := bitR .c6 .E s

/-- `BIT 6,H`, 0xCB 0x74 (R231). -/
def exec_bit_6_h (s : State) : Result := bitR .c6 .H s

/-- `BIT 6,L`, 0xCB 0x75 (R231). -/
def exec_bit_6_l (s : State) : Result := bitR .c6 .L s

/-- `BIT 6,(HL)`, 0xCB 0x76 (R232). -/
def exec_bit_6__hl (s : State) : Result := bitHL .c6 s

/-- `BIT 6,A`, 0xCB 0x77 (R231). -/
def exec_bit_6_a (s : State) : Result := bitR .c6 .A s

/-- `BIT 7,B`, 0xCB 0x78 (R231). -/
def exec_bit_7_b (s : State) : Result := bitR .c7 .B s

/-- `BIT 7,C`, 0xCB 0x79 (R231). -/
def exec_bit_7_c (s : State) : Result := bitR .c7 .C s

/-- `BIT 7,D`, 0xCB 0x7A (R231). -/
def exec_bit_7_d (s : State) : Result := bitR .c7 .D s

/-- `BIT 7,E`, 0xCB 0x7B (R231). -/
def exec_bit_7_e (s : State) : Result := bitR .c7 .E s

/-- `BIT 7,H`, 0xCB 0x7C (R231). -/
def exec_bit_7_h (s : State) : Result := bitR .c7 .H s

/-- `BIT 7,L`, 0xCB 0x7D (R231). -/
def exec_bit_7_l (s : State) : Result := bitR .c7 .L s

/-- `BIT 7,(HL)`, 0xCB 0x7E (R232). -/
def exec_bit_7__hl (s : State) : Result := bitHL .c7 s

/-- `BIT 7,A`, 0xCB 0x7F (R231). -/
def exec_bit_7_a (s : State) : Result := bitR .c7 .A s

/-- `RES 0,B`, 0xCB 0x80 (R233). -/
def exec_res_0_b (s : State) : Result := resR .c0 .B s

/-- `RES 0,C`, 0xCB 0x81 (R233). -/
def exec_res_0_c (s : State) : Result := resR .c0 .C s

/-- `RES 0,D`, 0xCB 0x82 (R233). -/
def exec_res_0_d (s : State) : Result := resR .c0 .D s

/-- `RES 0,E`, 0xCB 0x83 (R233). -/
def exec_res_0_e (s : State) : Result := resR .c0 .E s

/-- `RES 0,H`, 0xCB 0x84 (R233). -/
def exec_res_0_h (s : State) : Result := resR .c0 .H s

/-- `RES 0,L`, 0xCB 0x85 (R233). -/
def exec_res_0_l (s : State) : Result := resR .c0 .L s

/-- `RES 0,(HL)`, 0xCB 0x86 (R234). -/
def exec_res_0__hl (s : State) : Result := resHL .c0 s

/-- `RES 0,A`, 0xCB 0x87 (R233). -/
def exec_res_0_a (s : State) : Result := resR .c0 .A s

/-- `RES 1,B`, 0xCB 0x88 (R233). -/
def exec_res_1_b (s : State) : Result := resR .c1 .B s

/-- `RES 1,C`, 0xCB 0x89 (R233). -/
def exec_res_1_c (s : State) : Result := resR .c1 .C s

/-- `RES 1,D`, 0xCB 0x8A (R233). -/
def exec_res_1_d (s : State) : Result := resR .c1 .D s

/-- `RES 1,E`, 0xCB 0x8B (R233). -/
def exec_res_1_e (s : State) : Result := resR .c1 .E s

/-- `RES 1,H`, 0xCB 0x8C (R233). -/
def exec_res_1_h (s : State) : Result := resR .c1 .H s

/-- `RES 1,L`, 0xCB 0x8D (R233). -/
def exec_res_1_l (s : State) : Result := resR .c1 .L s

/-- `RES 1,(HL)`, 0xCB 0x8E (R234). -/
def exec_res_1__hl (s : State) : Result := resHL .c1 s

/-- `RES 1,A`, 0xCB 0x8F (R233). -/
def exec_res_1_a (s : State) : Result := resR .c1 .A s

/-- `RES 2,B`, 0xCB 0x90 (R233). -/
def exec_res_2_b (s : State) : Result := resR .c2 .B s

/-- `RES 2,C`, 0xCB 0x91 (R233). -/
def exec_res_2_c (s : State) : Result := resR .c2 .C s

/-- `RES 2,D`, 0xCB 0x92 (R233). -/
def exec_res_2_d (s : State) : Result := resR .c2 .D s

/-- `RES 2,E`, 0xCB 0x93 (R233). -/
def exec_res_2_e (s : State) : Result := resR .c2 .E s

/-- `RES 2,H`, 0xCB 0x94 (R233). -/
def exec_res_2_h (s : State) : Result := resR .c2 .H s

/-- `RES 2,L`, 0xCB 0x95 (R233). -/
def exec_res_2_l (s : State) : Result := resR .c2 .L s

/-- `RES 2,(HL)`, 0xCB 0x96 (R234). -/
def exec_res_2__hl (s : State) : Result := resHL .c2 s

/-- `RES 2,A`, 0xCB 0x97 (R233). -/
def exec_res_2_a (s : State) : Result := resR .c2 .A s

/-- `RES 3,B`, 0xCB 0x98 (R233). -/
def exec_res_3_b (s : State) : Result := resR .c3 .B s

/-- `RES 3,C`, 0xCB 0x99 (R233). -/
def exec_res_3_c (s : State) : Result := resR .c3 .C s

/-- `RES 3,D`, 0xCB 0x9A (R233). -/
def exec_res_3_d (s : State) : Result := resR .c3 .D s

/-- `RES 3,E`, 0xCB 0x9B (R233). -/
def exec_res_3_e (s : State) : Result := resR .c3 .E s

/-- `RES 3,H`, 0xCB 0x9C (R233). -/
def exec_res_3_h (s : State) : Result := resR .c3 .H s

/-- `RES 3,L`, 0xCB 0x9D (R233). -/
def exec_res_3_l (s : State) : Result := resR .c3 .L s

/-- `RES 3,(HL)`, 0xCB 0x9E (R234). -/
def exec_res_3__hl (s : State) : Result := resHL .c3 s

/-- `RES 3,A`, 0xCB 0x9F (R233). -/
def exec_res_3_a (s : State) : Result := resR .c3 .A s

/-- `RES 4,B`, 0xCB 0xA0 (R233). -/
def exec_res_4_b (s : State) : Result := resR .c4 .B s

/-- `RES 4,C`, 0xCB 0xA1 (R233). -/
def exec_res_4_c (s : State) : Result := resR .c4 .C s

/-- `RES 4,D`, 0xCB 0xA2 (R233). -/
def exec_res_4_d (s : State) : Result := resR .c4 .D s

/-- `RES 4,E`, 0xCB 0xA3 (R233). -/
def exec_res_4_e (s : State) : Result := resR .c4 .E s

/-- `RES 4,H`, 0xCB 0xA4 (R233). -/
def exec_res_4_h (s : State) : Result := resR .c4 .H s

/-- `RES 4,L`, 0xCB 0xA5 (R233). -/
def exec_res_4_l (s : State) : Result := resR .c4 .L s

/-- `RES 4,(HL)`, 0xCB 0xA6 (R234). -/
def exec_res_4__hl (s : State) : Result := resHL .c4 s

/-- `RES 4,A`, 0xCB 0xA7 (R233). -/
def exec_res_4_a (s : State) : Result := resR .c4 .A s

/-- `RES 5,B`, 0xCB 0xA8 (R233). -/
def exec_res_5_b (s : State) : Result := resR .c5 .B s

/-- `RES 5,C`, 0xCB 0xA9 (R233). -/
def exec_res_5_c (s : State) : Result := resR .c5 .C s

/-- `RES 5,D`, 0xCB 0xAA (R233). -/
def exec_res_5_d (s : State) : Result := resR .c5 .D s

/-- `RES 5,E`, 0xCB 0xAB (R233). -/
def exec_res_5_e (s : State) : Result := resR .c5 .E s

/-- `RES 5,H`, 0xCB 0xAC (R233). -/
def exec_res_5_h (s : State) : Result := resR .c5 .H s

/-- `RES 5,L`, 0xCB 0xAD (R233). -/
def exec_res_5_l (s : State) : Result := resR .c5 .L s

/-- `RES 5,(HL)`, 0xCB 0xAE (R234). -/
def exec_res_5__hl (s : State) : Result := resHL .c5 s

/-- `RES 5,A`, 0xCB 0xAF (R233). -/
def exec_res_5_a (s : State) : Result := resR .c5 .A s

/-- `RES 6,B`, 0xCB 0xB0 (R233). -/
def exec_res_6_b (s : State) : Result := resR .c6 .B s

/-- `RES 6,C`, 0xCB 0xB1 (R233). -/
def exec_res_6_c (s : State) : Result := resR .c6 .C s

/-- `RES 6,D`, 0xCB 0xB2 (R233). -/
def exec_res_6_d (s : State) : Result := resR .c6 .D s

/-- `RES 6,E`, 0xCB 0xB3 (R233). -/
def exec_res_6_e (s : State) : Result := resR .c6 .E s

/-- `RES 6,H`, 0xCB 0xB4 (R233). -/
def exec_res_6_h (s : State) : Result := resR .c6 .H s

/-- `RES 6,L`, 0xCB 0xB5 (R233). -/
def exec_res_6_l (s : State) : Result := resR .c6 .L s

/-- `RES 6,(HL)`, 0xCB 0xB6 (R234). -/
def exec_res_6__hl (s : State) : Result := resHL .c6 s

/-- `RES 6,A`, 0xCB 0xB7 (R233). -/
def exec_res_6_a (s : State) : Result := resR .c6 .A s

/-- `RES 7,B`, 0xCB 0xB8 (R233). -/
def exec_res_7_b (s : State) : Result := resR .c7 .B s

/-- `RES 7,C`, 0xCB 0xB9 (R233). -/
def exec_res_7_c (s : State) : Result := resR .c7 .C s

/-- `RES 7,D`, 0xCB 0xBA (R233). -/
def exec_res_7_d (s : State) : Result := resR .c7 .D s

/-- `RES 7,E`, 0xCB 0xBB (R233). -/
def exec_res_7_e (s : State) : Result := resR .c7 .E s

/-- `RES 7,H`, 0xCB 0xBC (R233). -/
def exec_res_7_h (s : State) : Result := resR .c7 .H s

/-- `RES 7,L`, 0xCB 0xBD (R233). -/
def exec_res_7_l (s : State) : Result := resR .c7 .L s

/-- `RES 7,(HL)`, 0xCB 0xBE (R234). -/
def exec_res_7__hl (s : State) : Result := resHL .c7 s

/-- `RES 7,A`, 0xCB 0xBF (R233). -/
def exec_res_7_a (s : State) : Result := resR .c7 .A s

/-- `SET 0,B`, 0xCB 0xC0 (R235). -/
def exec_set_0_b (s : State) : Result := setR .c0 .B s

/-- `SET 0,C`, 0xCB 0xC1 (R235). -/
def exec_set_0_c (s : State) : Result := setR .c0 .C s

/-- `SET 0,D`, 0xCB 0xC2 (R235). -/
def exec_set_0_d (s : State) : Result := setR .c0 .D s

/-- `SET 0,E`, 0xCB 0xC3 (R235). -/
def exec_set_0_e (s : State) : Result := setR .c0 .E s

/-- `SET 0,H`, 0xCB 0xC4 (R235). -/
def exec_set_0_h (s : State) : Result := setR .c0 .H s

/-- `SET 0,L`, 0xCB 0xC5 (R235). -/
def exec_set_0_l (s : State) : Result := setR .c0 .L s

/-- `SET 0,(HL)`, 0xCB 0xC6 (R236). -/
def exec_set_0__hl (s : State) : Result := setHL .c0 s

/-- `SET 0,A`, 0xCB 0xC7 (R235). -/
def exec_set_0_a (s : State) : Result := setR .c0 .A s

/-- `SET 1,B`, 0xCB 0xC8 (R235). -/
def exec_set_1_b (s : State) : Result := setR .c1 .B s

/-- `SET 1,C`, 0xCB 0xC9 (R235). -/
def exec_set_1_c (s : State) : Result := setR .c1 .C s

/-- `SET 1,D`, 0xCB 0xCA (R235). -/
def exec_set_1_d (s : State) : Result := setR .c1 .D s

/-- `SET 1,E`, 0xCB 0xCB (R235). -/
def exec_set_1_e (s : State) : Result := setR .c1 .E s

/-- `SET 1,H`, 0xCB 0xCC (R235). -/
def exec_set_1_h (s : State) : Result := setR .c1 .H s

/-- `SET 1,L`, 0xCB 0xCD (R235). -/
def exec_set_1_l (s : State) : Result := setR .c1 .L s

/-- `SET 1,(HL)`, 0xCB 0xCE (R236). -/
def exec_set_1__hl (s : State) : Result := setHL .c1 s

/-- `SET 1,A`, 0xCB 0xCF (R235). -/
def exec_set_1_a (s : State) : Result := setR .c1 .A s

/-- `SET 2,B`, 0xCB 0xD0 (R235). -/
def exec_set_2_b (s : State) : Result := setR .c2 .B s

/-- `SET 2,C`, 0xCB 0xD1 (R235). -/
def exec_set_2_c (s : State) : Result := setR .c2 .C s

/-- `SET 2,D`, 0xCB 0xD2 (R235). -/
def exec_set_2_d (s : State) : Result := setR .c2 .D s

/-- `SET 2,E`, 0xCB 0xD3 (R235). -/
def exec_set_2_e (s : State) : Result := setR .c2 .E s

/-- `SET 2,H`, 0xCB 0xD4 (R235). -/
def exec_set_2_h (s : State) : Result := setR .c2 .H s

/-- `SET 2,L`, 0xCB 0xD5 (R235). -/
def exec_set_2_l (s : State) : Result := setR .c2 .L s

/-- `SET 2,(HL)`, 0xCB 0xD6 (R236). -/
def exec_set_2__hl (s : State) : Result := setHL .c2 s

/-- `SET 2,A`, 0xCB 0xD7 (R235). -/
def exec_set_2_a (s : State) : Result := setR .c2 .A s

/-- `SET 3,B`, 0xCB 0xD8 (R235). -/
def exec_set_3_b (s : State) : Result := setR .c3 .B s

/-- `SET 3,C`, 0xCB 0xD9 (R235). -/
def exec_set_3_c (s : State) : Result := setR .c3 .C s

/-- `SET 3,D`, 0xCB 0xDA (R235). -/
def exec_set_3_d (s : State) : Result := setR .c3 .D s

/-- `SET 3,E`, 0xCB 0xDB (R235). -/
def exec_set_3_e (s : State) : Result := setR .c3 .E s

/-- `SET 3,H`, 0xCB 0xDC (R235). -/
def exec_set_3_h (s : State) : Result := setR .c3 .H s

/-- `SET 3,L`, 0xCB 0xDD (R235). -/
def exec_set_3_l (s : State) : Result := setR .c3 .L s

/-- `SET 3,(HL)`, 0xCB 0xDE (R236). -/
def exec_set_3__hl (s : State) : Result := setHL .c3 s

/-- `SET 3,A`, 0xCB 0xDF (R235). -/
def exec_set_3_a (s : State) : Result := setR .c3 .A s

/-- `SET 4,B`, 0xCB 0xE0 (R235). -/
def exec_set_4_b (s : State) : Result := setR .c4 .B s

/-- `SET 4,C`, 0xCB 0xE1 (R235). -/
def exec_set_4_c (s : State) : Result := setR .c4 .C s

/-- `SET 4,D`, 0xCB 0xE2 (R235). -/
def exec_set_4_d (s : State) : Result := setR .c4 .D s

/-- `SET 4,E`, 0xCB 0xE3 (R235). -/
def exec_set_4_e (s : State) : Result := setR .c4 .E s

/-- `SET 4,H`, 0xCB 0xE4 (R235). -/
def exec_set_4_h (s : State) : Result := setR .c4 .H s

/-- `SET 4,L`, 0xCB 0xE5 (R235). -/
def exec_set_4_l (s : State) : Result := setR .c4 .L s

/-- `SET 4,(HL)`, 0xCB 0xE6 (R236). -/
def exec_set_4__hl (s : State) : Result := setHL .c4 s

/-- `SET 4,A`, 0xCB 0xE7 (R235). -/
def exec_set_4_a (s : State) : Result := setR .c4 .A s

/-- `SET 5,B`, 0xCB 0xE8 (R235). -/
def exec_set_5_b (s : State) : Result := setR .c5 .B s

/-- `SET 5,C`, 0xCB 0xE9 (R235). -/
def exec_set_5_c (s : State) : Result := setR .c5 .C s

/-- `SET 5,D`, 0xCB 0xEA (R235). -/
def exec_set_5_d (s : State) : Result := setR .c5 .D s

/-- `SET 5,E`, 0xCB 0xEB (R235). -/
def exec_set_5_e (s : State) : Result := setR .c5 .E s

/-- `SET 5,H`, 0xCB 0xEC (R235). -/
def exec_set_5_h (s : State) : Result := setR .c5 .H s

/-- `SET 5,L`, 0xCB 0xED (R235). -/
def exec_set_5_l (s : State) : Result := setR .c5 .L s

/-- `SET 5,(HL)`, 0xCB 0xEE (R236). -/
def exec_set_5__hl (s : State) : Result := setHL .c5 s

/-- `SET 5,A`, 0xCB 0xEF (R235). -/
def exec_set_5_a (s : State) : Result := setR .c5 .A s

/-- `SET 6,B`, 0xCB 0xF0 (R235). -/
def exec_set_6_b (s : State) : Result := setR .c6 .B s

/-- `SET 6,C`, 0xCB 0xF1 (R235). -/
def exec_set_6_c (s : State) : Result := setR .c6 .C s

/-- `SET 6,D`, 0xCB 0xF2 (R235). -/
def exec_set_6_d (s : State) : Result := setR .c6 .D s

/-- `SET 6,E`, 0xCB 0xF3 (R235). -/
def exec_set_6_e (s : State) : Result := setR .c6 .E s

/-- `SET 6,H`, 0xCB 0xF4 (R235). -/
def exec_set_6_h (s : State) : Result := setR .c6 .H s

/-- `SET 6,L`, 0xCB 0xF5 (R235). -/
def exec_set_6_l (s : State) : Result := setR .c6 .L s

/-- `SET 6,(HL)`, 0xCB 0xF6 (R236). -/
def exec_set_6__hl (s : State) : Result := setHL .c6 s

/-- `SET 6,A`, 0xCB 0xF7 (R235). -/
def exec_set_6_a (s : State) : Result := setR .c6 .A s

/-- `SET 7,B`, 0xCB 0xF8 (R235). -/
def exec_set_7_b (s : State) : Result := setR .c7 .B s

/-- `SET 7,C`, 0xCB 0xF9 (R235). -/
def exec_set_7_c (s : State) : Result := setR .c7 .C s

/-- `SET 7,D`, 0xCB 0xFA (R235). -/
def exec_set_7_d (s : State) : Result := setR .c7 .D s

/-- `SET 7,E`, 0xCB 0xFB (R235). -/
def exec_set_7_e (s : State) : Result := setR .c7 .E s

/-- `SET 7,H`, 0xCB 0xFC (R235). -/
def exec_set_7_h (s : State) : Result := setR .c7 .H s

/-- `SET 7,L`, 0xCB 0xFD (R235). -/
def exec_set_7_l (s : State) : Result := setR .c7 .L s

/-- `SET 7,(HL)`, 0xCB 0xFE (R236). -/
def exec_set_7__hl (s : State) : Result := setHL .c7 s

/-- `SET 7,A`, 0xCB 0xFF (R235). -/
def exec_set_7_a (s : State) : Result := setR .c7 .A s

end Sys2Proof.Machine
end

