-- ==== Sys2Proof/Machine/Fetch.lean ====
section
/-! DEFINITION. Fetching an instruction's bytes (R14, R405), and placing bytes where a fetch reads them. -/

namespace Sys2Proof.Machine

/-- The instruction at PC: the opcode byte, then the operand or second opcode byte(s) that it calls for, each by
`Fetch8()` (R14, R90, R405). The padding byte of `STOP` is not fetched (R107). -/
def fetchInstr (s : State) : Instr × State :=
  let f0 := fetch8 s
  match fetchCount f0.1 with
  | 0 | 1 => (decodeBytes f0.1 0x00 0x00, f0.2)
  | 2 =>
    let f1 := fetch8 f0.2
    (decodeBytes f0.1 f1.1 0x00, f1.2)
  | _ =>
    let f1 := fetch8 f0.2
    let f2 := fetch8 f1.2
    (decodeBytes f0.1 f1.1 f2.1, f2.2)

/-- The cell that a fetch from `a` reads, where plain ROM or RAM serves it. -/
def codeCell (a : Word) (s : State) : Option Nat :=
  if s.handler a = .cartridge ∧ a.toNat < 0x8000 then some a.toNat else s.cellOf a

/-- The byte `b` placed where a fetch from `a` reads it: the boot ROM image, the next answer of a cartridge agent, the
cartridge image, or RAM. A device address keeps what it has (log 18). This is a load from outside the machine, not a bus
write. -/
def placeCode (a : Word) (b : Byte) (s : State) : State :=
  if s.handler a = .bootRom then
    s.setParams { s.params with bootRom := s.params.bootRom.map (fun m => m.write a.toNat b) }
  else if s.handler a = .cartridge ∧ s.params.cart = .agent then
    s.setCartridge { s.cartridge with answers := b :: s.cartridge.answers }
  else
    match codeCell a s with
    | some k => s.setMem (s.mem.write k b)
    | none => s

/-- Bytes placed at `a`, `a + 1`, …, the last one first, so that an agent's answers come in order. -/
def placeCodeList : Word → List Byte → State → State
  | _, [], s => s
  | a, b :: bs, s => placeCode a b (placeCodeList (a + 1) bs s)

/-- The three bytes of a table word, its bits above `nbits` zero: the first byte in the low bits. -/
def wordBytes (nbits w : Nat) : List Byte :=
  let v := w % 2 ^ nbits
  [BitVec.ofNat 8 v, BitVec.ofNat 8 (v / 0x100), BitVec.ofNat 8 (v / 0x10000)]

/-- The machine made ready to fetch: running, and no dispatch due in place of the fetch (log 18). -/
def readyToFetch (s : State) : State :=
  let s1 := s.setRun .running
  if s1.pending = 0 then s1 else s1.setIme false

/-- `s` with the table word `w` loaded at PC, ready to be the next instruction (log 18). -/
def loadWord (nbits w : Nat) (s : State) : State := readyToFetch (placeCodeList s.regs.pc (wordBytes nbits w) s)

end Sys2Proof.Machine
end

