-- ==== Sys2Proof/Machine/Pass.lean ====
section
/-! DEFINITION. One pass of the step loop (R405 of spec/70_reset_and_hazards.md, R320, R321 of
spec/60_exceptions.md). -/

namespace Sys2Proof.Machine

/-- The end of a pass applied to what an instruction answered (R405). -/
def finishResult (arm : Bool) (r : Result) : Result :=
  match r with
  | .next t => .next (finishPass arm t)
  | .fault e => .fault e
  | .refused e => .refused e

/-- One whole instruction: `arm` from before the fetch, the fetch, the instruction, the delayed enable of `EI`
(R405). -/
def instructionPass (s : State) : Result :=
  let f := fetchInstr s
  finishResult s.eiPending (exec f.1 f.2)

/-- A pass of a running machine: interrupts are sampled once, before the fetch (R314); a dispatch takes the place of
an instruction (R315). -/
def runningPass (s : State) : Result :=
  if s.ime && s.pending != 0 then .next (takeInterrupt (leastSource s.pending) s) else instructionPass s

/-- A pass of a halted machine (R320): an idle cycle, or the wake-up and a running pass. -/
def haltedPass (s : State) : Result :=
  if s.pending = 0 then .next (tick s) else runningPass (s.setRun .running)

/-- `Step()` (R405). A faulted machine has no further step: that is the model's fault (R301). -/
def pass (s : State) : Result :=
  match s.run with
  | .faulted opcode pc extended => .fault (.unimplementedInstruction opcode pc extended)
  | .stopped => .next (stopPass s)
  | .halted => haltedPass s
  | .running => runningPass s

end Sys2Proof.Machine
end

