-- ==== Sys2Proof/Machine/Step.lean ====
section
/-! DEFINITION. One step of the machine is one pass of the step loop (log 15); and the load of one instruction. -/

namespace Sys2Proof.Machine

/-- One pass of the step loop (R405). -/
def step : State → Host.Outcome State Fault Refusal := fun s => pass s

/-- `s` with the instruction of a table word loaded where the next fetch reads it (log 4, log 18). -/
def State.withFetchWord (s : State) (nbits w : Nat) : State := loadWord nbits w s

end Sys2Proof.Machine
end

