-- ==== Sys2Proof/Machine/Launch.lean ====
section
/-! DEFINITION. The launch configurations of R404 and the post-boot state of R403 (spec/70_reset_and_hazards.md).
`State.reset` is configuration (b) with blank memory; the definitions here take what a launch chooses as arguments
(log 19). -/

namespace Sys2Proof.Machine

/-- What a launch chooses (R9): `CART` (its kind, its image in `mem`, the answers of an agent), `RAM_INIT` in `mem`, `RESET_REGS`, the frame buffer's contents,
`INPUT`, `SERIAL_IN` and `DMA_STALL_MCYCLES`. -/
structure Launch where
  cart : CartKind
  answers : List Byte
  mem : Memory
  regs : Regs
  frameBuffer : Memory
  polls : List Buttons
  line : List Bool
  dmaStallMCycles : Nat
  deriving DecidableEq, Repr

/-- Configuration (b) of R404: no boot ROM. PC is 0x0000 whatever the other registers hold (R40). -/
def launchCartridge (l : Launch) : State :=
  { State.reset with
    regs := { l.regs with pc := 0x0000 }
    mem := l.mem
    frameBuffer := l.frameBuffer
    serial := { Serial.reset with line := l.line }
    input := { State.reset.input with polls := l.polls }
    cartridge := { answers := l.answers, accesses := [] }
    params := { cart := l.cart, bootRom := none, dmaStallMCycles := l.dmaStallMCycles } }

/-- Configuration (a) of R404: the boot ROM `image` at 0x0000-0x00FF. -/
def launchBootRom (image : List Byte) (l : Launch) : State :=
  { launchCartridge l with
    slots := slotsWithBootRom
    params := { cart := l.cart, bootRom := some (Memory.writeList [] 0 image), dmaStallMCycles := l.dmaStallMCycles } }

/-- The registers the boot ROM leaves (R403). -/
def postBootRegs : Regs :=
  { a := 0x01, f := { z := true, n := false, h := true, c := true }, b := 0x00, c := 0x13, d := 0x00, e := 0xD8,
    h := 0x01, l := 0x4D, sp := 0xFFFE, pc := 0x0100 }

/-- Configuration (c) of R404: the post-boot state of R403. `div16`, `frame_cycle` and TIMA, which R403 leaves
unspecified, are arguments. -/
def launchPostBoot (l : Launch) (div : Word) (frameCycle : Nat) (tima : Byte) : State :=
  { launchCartridge l with
    regs := postBootRegs
    irq := { flag := 0b00001, enable := 0x00 }
    timer := { Timer.reset with div := div, tima := tima }
    video := { Video.reset with lcdc := 0x91, bgp := 0xFC, frameCycle := frameCycle } }

end Sys2Proof.Machine
end

