-- ==== Sys2Proof/Safety.lean ====
section
/-! DEFINITION. What holds of every state that a run reaches (`State.Inv`), what counts as a safe run, and the unit of
a run (R406 of spec/70_reset_and_hazards.md). -/

namespace Sys2Proof.Machine

/-- The cells of `mem` that a cartridge has (R66, log 3): its image, its RAM; an agent keeps its own. -/
def cartridgeAddress (cart : CartKind) (k : Nat) : Bool :=
  match cart with
  | .romOnly => decide (k < 0x8000)
  | .romRam => decide (k < 0x8000) || (decide (0xA000 ≤ k) && decide (k < 0xC000))
  | .agent => false

/-- The cells that hold a byte of storage (R38, R66): the cartridge's, video RAM, work RAM, OAM, high RAM. The mirror has
no cells of its own (R67). -/
def storageAddress (cart : CartKind) (k : Nat) : Bool :=
  cartridgeAddress cart k || (decide (0x8000 ≤ k) && decide (k < 0xA000)) || (decide (0xC000 ≤ k) && decide (k < 0xE000)) ||
  (decide (0xFE00 ≤ k) && decide (k < 0xFEA0)) || (decide (0xFF80 ≤ k) && decide (k < 0xFFFF))

/-- A byte of the frame buffer: a pixel of 160 x 144, a colour of 0 to 3 (R376). -/
def framePixel (c : Host.Cell) : Bool := decide (c.1 < 23040) && decide (c.2.toNat < 4)

/-- A legal run state: `Faulted` carries one of the eleven undefined opcodes, never an extended one (R301). -/
def RunState.legal : RunState → Bool
  | .running | .halted | .stopped => true
  | .faulted opcode _ extended => undefinedOpcodes.contains opcode && !extended

/-- The invariant of the machine: memory and frame buffer in canonical form over the cells the spec gives them (R38,
R376); the interconnect is the map of R62, before or after the lockout (R60); the ranges of the counters (R355, R365);
the display disabled holds the frame counter at 0 (R374); the clock counts whole machine cycles (R12); a legal run
state (R33, R301). -/
structure State.Inv (s : State) : Prop where
  memCanonical : s.mem.wf = true
  memCells : ∀ c ∈ s.mem, storageAddress s.params.cart c.1 = true
  frameCanonical : s.frameBuffer.wf = true
  framePixels : ∀ c ∈ s.frameBuffer, framePixel c = true
  slots : s.slots = slotsWithCartridge ∨ (s.slots = slotsWithBootRom ∧ s.params.bootRom.isSome = true)
  frameCycle : s.video.frameCycle < frameCycles
  displayOff : s.video.displayOn = false → s.video.frameCycle = 0
  serialAcc : s.serial.acc < serialPeriod
  bitCountRange : s.serial.bitCount ≤ serialBits
  bitCountRunning : s.serial.running = true → s.serial.bitCount < serialBits
  clockCycles : s.clock % 4 = 0
  runLegal : s.run.legal = true

/-- The machine has met an undefined opcode (R301). -/
def State.isFaulted (s : State) : Bool :=
  match s.run with
  | .faulted _ _ _ => true
  | .running | .halted | .stopped => false

/-- `n` steps from `s` all answer a next state. -/
def runsFor : Nat → State → Bool
  | 0, _ => true
  | n + 1, s =>
    match step s with
    | .next t => runsFor n t
    | .fault _ | .refused _ => false

/-- The frame boundary that a run aims at: the next multiple of 70224 strictly above the clock (R406). -/
def frameTarget (clock : Nat) : Nat := (clock / frameCycles + 1) * frameCycles

/-- `while clock < target and run_state != Faulted: Step()`, at most `fuel` steps: the loop of R406 need not end, since
a stopped machine's clock stands still (log 15). -/
def runUntil : Nat → Nat → State → Result
  | 0, _, s => .next s
  | fuel + 1, target, s =>
    if s.clock < target && !s.isFaulted then
      match step s with
      | .next t => runUntil fuel target t
      | .fault e => .fault e
      | .refused e => .refused e
    else .next s

/-- `RunFrame()` (R406), at most `fuel` steps. -/
def runFrame (fuel : Nat) (s : State) : Result := runUntil fuel (frameTarget s.clock) s

/-! Terms in which the obligations are stated. -/

/-- Registers that only a program's own bus writes change, never the passing of time or a bus read. -/
structure Settings where
  ie : Byte
  tma : Byte
  tac : BitVec 3
  internalClock : Bool
  lcdc : Byte
  statSel : BitVec 4
  scy : Byte
  scx : Byte
  lyc : Byte
  dma : Byte
  bgp : Byte
  obp0 : Byte
  obp1 : Byte
  wy : Byte
  wx : Byte
  p1Select : BitVec 2
  deriving DecidableEq, Repr

/-- The settings of a state. -/
def State.settings (s : State) : Settings :=
  { ie := s.irq.enable, tma := s.timer.tma, tac := s.timer.tac, internalClock := s.serial.internal,
    lcdc := s.video.lcdc, statSel := s.video.statSel, scy := s.video.scy, scx := s.video.scx, lyc := s.video.lyc,
    dma := s.video.dma, bgp := s.video.bgp, obp0 := s.video.obp0, obp1 := s.video.obp1, wy := s.video.wy,
    wx := s.video.wx, p1Select := s.input.select }

/-- The interconnect holds one of the two maps of R62: before and after the lockout. -/
def State.mapped (s : State) : Prop := s.slots = slotsWithCartridge ∨ s.slots = slotsWithBootRom

/-- IME, `ei_pending`, the run state and the launch parameters are as before. -/
structure SameControl (s t : State) : Prop where
  ime : t.ime = s.ime
  eiPending : t.eiPending = s.eiPending
  run : t.run = s.run
  params : t.params = s.params

/-- What `n` M-cycles of bus reads and internal cycles may do: time passes. Every byte of memory reads as before, every
setting stays, and the interconnect stays one of the maps of R62. -/
structure OnlyReads (s t : State) (n : Nat) : Prop where
  control : SameControl s t
  settings : t.settings = s.settings
  memory : ∀ k, t.mem.read k = s.mem.read k
  slots : s.mapped → t.slots = s.slots
  clock : t.clock = s.clock + 4 * n

/-- The frame of a form that stores: IME, `ei_pending`, the run state and the parameters as before, and every byte of
memory outside `cells` reads as before. -/
structure OnlyStores (s t : State) (cells : List Nat) : Prop where
  control : SameControl s t
  memory : ∀ k, k ∉ cells → t.mem.read k = s.mem.read k

/-- `(res, F) = add8(a, b, c)` as R170 writes it, on integers. -/
structure AddsTo (a b : Byte) (c : Nat) (res : Byte) (f : Flags) : Prop where
  result : res.toNat = (a.toNat + b.toNat + c) % 256
  zero : f.z = true ↔ res = 0x00
  subtract : f.n = false
  half : f.h = true ↔ a.toNat % 16 + b.toNat % 16 + c > 15
  carry : f.c = true ↔ a.toNat + b.toNat + c > 255

/-- `(diff, F) = sub8(a, b, c)` as R170 writes it, on integers. -/
structure SubtractsTo (a b : Byte) (c : Nat) (diff : Byte) (f : Flags) : Prop where
  result : (diff.toNat : Int) = ((a.toNat : Int) - b.toNat - c) % 256
  zero : f.z = true ↔ diff = 0x00
  subtract : f.n = true
  half : f.h = true ↔ a.toNat % 16 < b.toNat % 16 + c
  borrow : f.c = true ↔ a.toNat < b.toNat + c

/-- The flags of a logic operation: Z from the result, N = 0, C = 0, H as given (R170). -/
def logicFlags (res : Byte) (h : Bool) (f : Flags) : Prop :=
  (f.z = true ↔ res = 0x00) ∧ f.n = false ∧ f.h = h ∧ f.c = false

/-- What the eight accumulator operations leave in A and F (R170 to R194), with `cf` the carry flag before. -/
def AluLeaves (op : AluOp) (a b : Byte) (cf : Bool) (a' : Byte) (f : Flags) : Prop :=
  match op with
  | .add => AddsTo a b 0 a' f
  | .adc => AddsTo a b (if cf then 1 else 0) a' f
  | .sub => SubtractsTo a b 0 a' f
  | .sbc => SubtractsTo a b (if cf then 1 else 0) a' f
  | .and => (∀ i, i < 8 → a'.getLsbD i = (a.getLsbD i && b.getLsbD i)) ∧ logicFlags a' true f
  | .xor => (∀ i, i < 8 → a'.getLsbD i = (a.getLsbD i ^^ b.getLsbD i)) ∧ logicFlags a' false f
  | .or => (∀ i, i < 8 → a'.getLsbD i = (a.getLsbD i || b.getLsbD i)) ∧ logicFlags a' false f
  | .cp => a' = a ∧ ∃ diff, SubtractsTo a b 0 diff f

/-- The eight rotates and shifts bit by bit (R214): `out` is the bit moved out, `cf` the carry flag before. -/
def ShiftLeaves (op : ShiftOp) (v : Byte) (cf : Bool) (res : Byte) (out : Bool) : Prop :=
  match op with
  | .rlc => out = v.getLsbD 7 ∧ ∀ i, i < 8 → res.getLsbD i = v.getLsbD ((i + 7) % 8)
  | .rrc => out = v.getLsbD 0 ∧ ∀ i, i < 8 → res.getLsbD i = v.getLsbD ((i + 1) % 8)
  | .rl => out = v.getLsbD 7 ∧ ∀ i, i < 8 → res.getLsbD i = if i = 0 then cf else v.getLsbD (i - 1)
  | .rr => out = v.getLsbD 0 ∧ ∀ i, i < 8 → res.getLsbD i = if i = 7 then cf else v.getLsbD (i + 1)
  | .sla => out = v.getLsbD 7 ∧ ∀ i, i < 8 → res.getLsbD i = if i = 0 then false else v.getLsbD (i - 1)
  | .sra => out = v.getLsbD 0 ∧ ∀ i, i < 8 → res.getLsbD i = if i = 7 then v.getLsbD 7 else v.getLsbD (i + 1)
  | .swap => out = false ∧ ∀ i, i < 8 → res.getLsbD i = v.getLsbD ((i + 4) % 8)
  | .srl => out = v.getLsbD 0 ∧ ∀ i, i < 8 → res.getLsbD i = if i = 7 then false else v.getLsbD (i + 1)

/-- The flags of the eight: `F.Z <- (res = 0); F.N <- 0; F.H <- 0; F.C <- out` (R214). -/
def shiftFlags (res : Byte) (out : Bool) (f : Flags) : Prop :=
  (f.z = true ↔ res = 0x00) ∧ f.n = false ∧ f.h = false ∧ f.c = out

/-- The flags of `SP + e` (R153, R201): Z = 0, N = 0, H and C the carries out of bits 3 and 7 of `SP[7:0] + e`. -/
def lowByteFlags (sp : Word) (e : Byte) (f : Flags) : Prop :=
  f.z = false ∧ f.n = false ∧ (f.h = true ↔ sp.toNat % 16 + e.toNat % 16 > 15) ∧
    (f.c = true ↔ sp.toNat % 256 + e.toNat > 255)

/-- A two-digit decimal value in binary-coded decimal. -/
def bcd (n : Nat) : Byte := BitVec.ofNat 8 (n / 10 * 16 + n % 10)

/-- `n` T-states. -/
def tStates : Nat → State → State
  | 0, s => s
  | n + 1, s => tStates n (tState s)

/-- `n` T-states of the timer's own registers. -/
def timerSteps : Nat → Timer → Timer
  | 0, t => t
  | n + 1, t => timerSteps n t.step

/-- `n` T-states of the serial controller's own registers. -/
def serialSteps : Nat → Serial → Serial
  | 0, c => c
  | n + 1, c => serialSteps n c.step

/-- The M-cycles of an instruction's row in the table of R420, its fetches included; `taken` is whether a condition
holds. -/
def formMCycles (f : Form) (taken : Bool) : Nat :=
  match f with
  | .nop | .di | .ei | .halt | .stop | .daa | .cpl | .ccf | .scf | .rlca | .rla | .rrca | .rra => 1
  | .ldRR _ _ | .aluR _ _ | .incR _ | .decR _ | .jpHL | .undefined _ => 1
  | .ldRN _ _ | .ldRHL _ | .ldHLR _ | .ldABC | .ldADE | .ldBCA | .ldDEA | .ldAHLI | .ldAHLD | .ldHLIA | .ldHLDA => 2
  | .ldAC | .ldCA | .ldSPHL | .aluHL _ | .aluN _ _ | .addHLPair _ | .incPair _ | .decPair _ => 2
  | .shiftR _ _ | .resR _ _ | .setR _ _ | .bitR _ _ => 2
  | .ldHLN _ | .ldAN _ | .ldNA _ | .ldPairNN _ _ | .ldhlSPE _ | .pop _ | .popAF | .incHL | .decHL => 3
  | .bitHL _ | .jrE _ => 3
  | .ldANN _ | .ldNNA _ | .push _ | .addSPE _ | .shiftHL _ | .resHL _ | .setHL _ | .jpNN _ | .ret | .reti => 4
  | .rst _ => 4
  | .ldNNSP _ => 5
  | .callNN _ => 6
  | .jpCC _ _ => if taken then 4 else 3
  | .jrCC _ _ => if taken then 3 else 2
  | .callCC _ _ => if taken then 6 else 3
  | .retCC _ => if taken then 5 else 2

/-- How many bytes a form stores at most. -/
def formStores (f : Form) : Nat :=
  match f with
  | .ldHLR _ | .ldHLN _ | .ldBCA | .ldDEA | .ldNNA _ | .ldCA | .ldNA _ | .ldHLIA | .ldHLDA => 1
  | .incHL | .decHL | .shiftHL _ | .resHL _ | .setHL _ => 1
  | .ldNNSP _ | .push _ | .callNN _ | .callCC _ _ | .rst _ => 2
  | _ => 0

/-- The condition of a conditional form, and true for every other form. -/
def formTaken (f : Form) (fl : Flags) : Bool :=
  match f with
  | .jpCC cc _ | .jrCC cc _ | .callCC cc _ | .retCC cc => condHolds cc fl
  | _ => true

/-- A frame handed to the host (R378). -/
def HostEvent.isFrame : HostEvent → Bool
  | .frameOut _ => true
  | .serialOut _ => false

/-- Only the CPU registers differ. -/
def OnlyRegs (s t : State) : Prop := t = s.setRegs t.regs

/-- `Push16(v)` begun in `u`, whose bus and SP are those of `s`, left memory as in `t` (R15): every byte outside the two
stored ones reads as before, and where both addresses are RAM the high byte is at SP - 1, the low byte at SP - 2. -/
def PushesBytes (v : Word) (s u t : State) : Prop :=
  (∀ k, k ∉ s.cellsWritten (s.regs.sp - 1) → k ∉ (push8 (hiByte v) u).cellsWritten (s.regs.sp - 2) →
    t.mem.read k = s.mem.read k) ∧
  (∀ k1 k2, s.cellOf (s.regs.sp - 1) = some k1 → s.cellOf (s.regs.sp - 2) = some k2 →
    t.mem.read k1 = hiByte v ∧ t.mem.read k2 = loByte v)

/-- The two writes of `Push16(v)` with SP at `sp`, the registers apart (R15, R76): the high byte at `sp - 1`, then the low
byte at `sp - 2`, each after an M-cycle. -/
def pushedBytes (v sp : Word) (u : State) : State :=
  busWrite (sp - 2) (v.extractLsb' 0 8) (tick (busWrite (sp - 1) (v.extractLsb' 8 8) (tick u)))

/-- The machine with a halt ended (R320). -/
def State.woken (s : State) : State := s.setRun .running

/-- A pass of this machine executes an instruction: it is running, or halted with something pending, and no dispatch is
due (R405). -/
structure State.Executes (s : State) : Prop where
  awake : s.run = .running ∨ (s.run = .halted ∧ s.pending ≠ 0)
  noDispatch : s.ime = false ∨ s.pending = 0

/-- The instruction that such a pass executes. -/
def State.nextInstr (s : State) : Instr := (fetchInstr s.woken).1

/-- An undefined opcode. -/
def isUndefined (i : Instr) : Bool :=
  match i.form with
  | .undefined _ => true
  | _ => false

/-- What a load of register `d` from address `a` with the registers `g` afterwards leaves: the bus byte one M-cycle
later, which is the stored byte where `a` is plain storage. -/
def LoadsByte (f : Form) (d : Reg8) (a : Word) (after : Regs → Regs) (s : State) : Prop :=
  ∃ t, exec f.toInstr s = .next t ∧ t.regs = after (s.regs.set8 d (busRead a (tick s)).1) ∧ OnlyReads s t 1 ∧
    (∀ b, s.peek a = some b → (busRead a (tick s)).1 = b)

/-- What a store of `v` at address `a` with the registers `g` afterwards leaves: the bus write one M-cycle later; where
`a` is RAM, that byte and no other. -/
def StoresByte (f : Form) (a : Word) (v : Byte) (after : Regs → Regs) (s : State) : Prop :=
  ∃ t, exec f.toInstr s = .next t ∧ t = (busWrite a v (tick s)).setRegs (after s.regs) ∧
    OnlyStores s t (s.cellsWritten a) ∧ t.clock = s.clock + 4 * (1 + s.stallCycles a) ∧
    (∀ k, s.cellOf a = some k → t.mem.read k = v ∧ t.settings = s.settings)

/-- What `INC` and `DEC` do to a byte and F (R195, R197): one more or less modulo 256, Z from the result, N, H from the
low nibble, C unchanged. -/
def CountsTo (up : Bool) (v : Byte) (f : Flags) (res : Byte) (f' : Flags) : Prop :=
  res = (if up then v + 1 else v - 1) ∧ (f'.z = true ↔ res = 0x00) ∧ f'.n = !up ∧
    (f'.h = true ↔ v.toNat % 16 = if up then 15 else 0) ∧ f'.c = f.c

/-- What a read-modify-write at HL that turns the byte read, `v`, into `res` leaves, F apart: the write of `res` at the
same address one M-cycle later; every other register, and every byte of memory but that one, as before (R52). -/
def RewritesByteAtHL (s t : State) (v res : Byte) : Prop :=
  let a := joinBytes s.regs.h s.regs.l
  v = (memRead a s).1 ∧ (∀ b, s.peek a = some b → v = b) ∧ t.regs = { s.regs with f := t.regs.f } ∧
    t = (memWrite a res (memRead a s).2).setRegs t.regs ∧
    OnlyStores s t ((memRead a s).2.cellsWritten a) ∧
    (∀ k, s.cellOf a = some k → t.mem.read k = res ∧ t.clock = s.clock + 8 ∧ t.settings = s.settings)

/-- What a call to `target` leaves: an internal cycle, the return address pushed, high byte first, PC at the target. -/
def Calls (f : Form) (target : Word) (s : State) : Prop :=
  ∃ t, exec f.toInstr s = .next t ∧
    t = (pushedBytes s.regs.pc s.regs.sp (tick s)).setRegs { s.regs with sp := s.regs.sp - 2, pc := target } ∧
    SameControl s t ∧ PushesBytes s.regs.pc s (tick s) t ∧
    (∀ k1 k2, s.cellOf (s.regs.sp - 1) = some k1 → s.cellOf (s.regs.sp - 2) = some k2 →
      t.clock = s.clock + 12 ∧ t.settings = s.settings)

end Sys2Proof.Machine
end

