-- ==== Sys2Proof/Certificates/Slice0/Obligations.lean ====
section
/-! DEFINITION. The obligations: statements about the model, each from rules of the spec. OBLIGATIONS.json gives each
its title, its tier and the rules it rests on. An instruction is written as the row of a form, `f.toInstr`; a statement
over all operands of a form speaks of every row of that form. -/

section

open Sys2Proof Sys2Proof.Machine

/-! Encoding. -/

/-- Words written out from R91, R98 to R101, R107, at least one of every family, decode to what they stand for. -/
def Obligations.SampleWordsDecode : Prop :=
  decode [0x41] = .ok (.ld_b_c, []) ∧
  decode [0x3E, 0x7F] = .ok (.ld_a_n 0x7F, []) ∧
  decode [0x21, 0x34, 0x12] = .ok (.ld_hl_nn 0x1234, []) ∧
  decode [0xF5] = .ok (.push_af, []) ∧
  decode [0x93] = .ok (.sub_e, []) ∧
  decode [0xFE, 0x3C] = .ok (.cp_n 0x3C, []) ∧
  decode [0x39] = .ok (.add_hl_sp, []) ∧
  decode [0xE8, 0x08] = .ok (.add_sp_e 0x08, []) ∧
  decode [0x1F] = .ok (.rra, []) ∧
  decode [0xCB, 0x37] = .ok (.swap_a, []) ∧
  decode [0xCB, 0x46] = .ok (.bit_0__hl, []) ∧
  decode [0xCB, 0xCB] = .ok (.set_1_e, []) ∧
  decode [0xCD, 0x34, 0x12] = .ok (.call_nn 0x1234, []) ∧
  decode [0x20, 0xFB] = .ok (.jr_nz_e 0xFB, []) ∧
  decode [0xEF] = .ok (.rst_28h, []) ∧
  decode [0x76] = .ok (.halt, []) ∧
  decode [0x10, 0x00] = .ok (.stop, []) ∧
  decode [0xDD] = .ok (.undefined_0xdd, [])

/-- Decoding the bytes of any instruction gives it back, with every operand, and leaves what follows. -/
def Obligations.DecodeOfEncode : Prop :=
  ∀ (i : Instr) (rest : List Byte), decode (encode i ++ rest) = .ok (i, rest)

/-- Every byte sequence that decodes is the encoding of what it decodes to, but for the padding byte of `STOP`, which
may have any value (R107). -/
def Obligations.EncodeOfDecode : Prop :=
  ∀ (bytes rest : List Byte) (i : Instr), decode bytes = .ok (i, rest) →
    (i ≠ .stop → bytes = encode i ++ rest) ∧ (i = .stop → ∃ pad, bytes = 0x10 :: pad :: rest)

/-- Three bytes always decode; the first byte alone fixes the length (R90); the instruction is an undefined opcode
exactly when the first byte is one of the eleven values of R102, and it is that opcode. -/
def Obligations.FirstByteDecides : Prop :=
  ∀ (b0 b1 b2 : Byte) (rest : List Byte), ∃ i,
    decode (b0 :: b1 :: b2 :: rest) = .ok (i, (b0 :: b1 :: b2 :: rest).drop (formOfBytes b0 0x00 0x00).length) ∧
    ((∃ op, i.form = .undefined op) ↔ b0 ∈ undefinedOpcodes) ∧
    (∀ op, i.form = .undefined op → op = b0)

/-! The step. -/

/-- When plain storage at PC holds the bytes of an instruction and no dispatch is due, a step is that instruction,
executed one M-cycle per fetched byte later with PC after those bytes (R14, R18, R405), and then the last line of the
pass; whatever serves PC, a step is the fetched instruction in that way. -/
def Obligations.StepRunsTheDecodedInstruction : Prop :=
  ∀ (s : State), s.run = .running → (s.ime = false ∨ s.pending = 0) →
    step s = finishResult s.eiPending (exec (fetchInstr s).1 (fetchInstr s).2) ∧
    ∀ (i : Instr), (∀ j b, j < i.form.fetchedLength → (encode i)[j]? = some b →
        s.peek (s.regs.pc + BitVec.ofNat 16 j) = some b) →
      step s = finishResult s.eiPending
        (exec i ((tickN i.form.fetchedLength s).setPc (s.regs.pc + BitVec.ofNat 16 i.form.fetchedLength)))

/-- Every step keeps the invariant of the machine, from every state that has it. -/
def Obligations.StepKeepsInvariant : Prop :=
  ∀ (s t : State), s.Inv → step s = .next t → t.Inv

/-- The invariant holds at reset, and at every launch of R404 whose memories are in canonical form. -/
def Obligations.LaunchHasInvariant : Prop :=
  State.reset.Inv ∧
  ∀ (l : Launch) (image : List Byte) (div : Word) (frameCycle : Nat) (tima : Byte),
    l.mem.wf = true → (∀ c ∈ l.mem, storageAddress l.cart c.1 = true) →
    l.frameBuffer.wf = true → (∀ c ∈ l.frameBuffer, framePixel c = true) → frameCycle < frameCycles →
    (launchCartridge l).Inv ∧ (launchBootRom image l).Inv ∧ (launchPostBoot l div frameCycle tima).Inv

/-- What reset leaves, for every choice of the parameters (R40, R401; the values are the spec's decision D4). The
registers and memories that R40 leaves unspecified are the launch's. -/
def Obligations.ResetValues : Prop :=
  ∀ (l : Launch) (image : List Byte),
    (∀ s, s = launchCartridge l ∨ s = launchBootRom image l →
      s.regs = { l.regs with pc := 0x0000 } ∧ s.regs.f.toByte.extractLsb' 0 4 = 0b0000 ∧
      s.ime = false ∧ s.eiPending = false ∧ s.run = .running ∧ s.clock = 0 ∧
      readIF s = 0xE0 ∧ s.irq.enable = 0x00 ∧
      s.timer = { div := 0x0000, tima := 0x00, tma := 0x00, tac := 0b000, prevEdge := false } ∧
      s.serial.sb = 0x00 ∧ readSerial 0xFF02 s = 0x7E ∧ s.serial.running = false ∧ s.serial.bitCount = 0 ∧
      s.serial.acc = 0 ∧ s.serial.outByte = 0x00 ∧
      s.video.lcdc = 0x00 ∧ readStat s = 0x82 ∧ s.video.scy = 0x00 ∧ s.video.scx = 0x00 ∧ s.video.ly = 0x00 ∧
      s.video.lyc = 0x00 ∧ s.video.dma = 0x00 ∧ s.video.wy = 0x00 ∧ s.video.wx = 0x00 ∧ s.video.bgp = 0x00 ∧
      s.video.obp0 = 0x00 ∧ s.video.obp1 = 0x00 ∧ s.video.frameCycle = 0 ∧ s.video.vblCycle = 0 ∧
      s.input.select = 0b00 ∧ s.input.prev = Buttons.released) ∧
    (launchCartridge l).slots = slotsWithCartridge ∧ (launchBootRom image l).slots = slotsWithBootRom

/-- An undefined opcode faults the machine: the next state is `Faulted` with the opcode and the PC it was fetched from,
and nothing else changes (R269, R301); a faulted machine takes no further step; every other machine takes one. -/
def Obligations.UndefinedOpcodeFaults : Prop :=
  (∀ op s, op ∈ undefinedOpcodes →
    exec (Form.undefined op).toInstr s = .next (s.setRun (.faulted op (s.regs.pc - 1) false))) ∧
  (∀ s op pc extended, s.run = .faulted op pc extended →
    step s = .fault (.unimplementedInstruction op pc extended)) ∧
  (∀ s, s.isFaulted = false → ∃ t, step s = .next t)

/-- The clock never goes back and moves by whole M-cycles; it stands still while the machine is stopped (R34, R321). -/
def Obligations.ClockMovesForward : Prop :=
  ∀ (s t : State), step s = .next t →
    s.clock ≤ t.clock ∧ (t.clock - s.clock) % 4 = 0 ∧ (s.run = .stopped → t.clock = s.clock) ∧
    (s.run ≠ .stopped → s.clock < t.clock)

/-- Every instruction completes, and costs the M-cycles of the table of R420, of which its fetch has charged one per
byte, plus at most one `DMA_STALL_MCYCLES` for each byte it stores (R377). -/
def Obligations.InstructionTiming : Prop :=
  ∀ (i : Instr) (s : State), ∃ t n, exec i s = .next t ∧ n ≤ formStores i.form ∧
    t.clock + 4 * i.form.fetchedLength =
      s.clock + 4 * formMCycles i.form (formTaken i.form s.regs.f) + 4 * (n * s.params.dmaStallMCycles)

/-- IME changes only as R32 says: it is set by `RETI` or by the delayed enable of an earlier `EI`, and cleared by `DI`
or by a dispatch; no other instruction, wake-up, read or write touches it. -/
def Obligations.OnlyTheseChangeIme : Prop :=
  ∀ (s t : State), step s = .next t → t.ime ≠ s.ime →
    (t.ime = true ∧ s.Executes ∧ (s.nextInstr = .reti ∨ (s.eiPending = true ∧ s.nextInstr ≠ .di))) ∨
    (t.ime = false ∧ s.Executes ∧ s.nextInstr = .di) ∨
    (t.ime = false ∧ (s.run = .running ∨ s.run = .halted) ∧ s.pending ≠ 0)

/-- The run state changes only as R33 says. -/
def Obligations.OnlyTheseChangeTheRunState : Prop :=
  ∀ (s t : State), step s = .next t →
    (s.run = .stopped → t.run = .stopped ∨ (t.run = .running ∧ s.pressSeen = true)) ∧
    (s.run = .halted → s.pending = 0 → t.run = .halted) ∧
    (s.run = .running → t.run = .running ∨ (s.Executes ∧
      ((t.run = .halted ∧ s.nextInstr = .halt) ∨ (t.run = .stopped ∧ s.nextInstr = .stop) ∨
        ∃ op, t.run = .faulted op s.regs.pc false ∧ s.nextInstr.form = .undefined op)))

/-- `EI` enables after the next instruction (R266): the pass of the `EI` leaves IME as it was; the next instruction, of
whatever kind but `DI` and the undefined opcodes, ends with IME set; `DI` cancels the enable. -/
def Obligations.EiTakesEffectAfterOneInstruction : Prop :=
  ∀ (s t : State), s.Executes → step s = .next t →
    (s.eiPending = false → s.nextInstr = .ei → t.ime = s.ime ∧ t.eiPending = true) ∧
    (s.eiPending = true → s.nextInstr ≠ .di → isUndefined s.nextInstr = false → t.ime = true ∧ t.eiPending = false) ∧
    (s.nextInstr = .di → t.ime = false ∧ t.eiPending = false)

/-! Interrupts and power states. -/

/-- Dispatch (R315, R316): with IME set and something pending, a step spends two M-cycles, pushes PC, clears IME,
`ei_pending` and the IF bit of the lowest pending source, spends one more M-cycle, and puts PC at the source's vector; no
other register changes. Every other request stays pending, unless a push writes IF itself. With the stack in RAM it costs
5 M-cycles. -/
def Obligations.InterruptDispatch : Prop :=
  ∀ (s : State), s.ime = true → s.pending ≠ 0 → (s.run = .running ∨ s.run = .halted) →
    ∃ t u, step s = .next t ∧ u = pushedBytes s.regs.pc s.regs.sp (tick (tick s.woken)) ∧
      t = (tick (((u.setIme false).setEiPending false).setIrq
        { u.irq with flag := u.irq.flag &&& ~~~ (1#5 <<< (leastSource s.pending).bit) })).setRegs t.regs ∧
      t.regs = { s.regs with sp := s.regs.sp - 2, pc := 0x0040 + BitVec.ofNat 16 (8 * (leastSource s.pending).bit) } ∧
      t.ime = false ∧ t.eiPending = false ∧ t.run = .running ∧
      (∀ j, j ≠ (leastSource s.pending).bit → s.regs.sp - 1 ≠ 0xFF0F → s.regs.sp - 2 ≠ 0xFF0F →
        s.irq.flag.getLsbD j = true → t.irq.flag.getLsbD j = true) ∧
      PushesBytes s.regs.pc s (tick (tick s.woken)) t ∧
      (∀ k1 k2, s.cellOf (s.regs.sp - 1) = some k1 → s.cellOf (s.regs.sp - 2) = some k2 → t.clock = s.clock + 20)

/-- Among the pending bits the lowest-numbered wins (R313). -/
def Obligations.LowestPendingSourceWins : Prop :=
  ∀ (p : BitVec 5), p ≠ 0 →
    p.getLsbD (leastSource p).bit = true ∧ ∀ j, j < (leastSource p).bit → p.getLsbD j = false

/-- A halted machine idles for one M-cycle while nothing is pending, and otherwise makes the pass of the running
machine, whether or not IME is set (R320). -/
def Obligations.HaltIdlesOrWakes : Prop :=
  ∀ (s : State), s.run = .halted →
    (s.pending = 0 → step s = .next (tick s) ∧ OnlyReads s (tick s) 1 ∧ (tick s).regs = s.regs) ∧
    (s.pending ≠ 0 → step s = step (s.setRun .running))

/-- A stopped machine only polls (R321): the buttons are the next poll result (log 5), a press requests the input
interrupt and ends the stop, and nothing else of the machine moves, in particular no clock and no peripheral. -/
def Obligations.StopPassOnlyPolls : Prop :=
  ∀ (s : State), s.run = .stopped → ∃ t, step s = .next t ∧
    t = ((s.setRun t.run).setIrq t.irq).setInput { s.input with prev := s.input.next, polls := s.input.polls.tail } ∧
    t.irq.enable = s.irq.enable ∧ t.run = (if s.pressSeen then .running else .stopped) ∧
    (∀ j, j < 5 → t.irq.flag.getLsbD j = (s.irq.flag.getLsbD j || (s.pressSeen && decide (j = 4))))

/-- `request(k)` sets IF bit `k` and no other, whatever IE and IME hold and whether or not the bit is set already. A
request stays: no M-cycle of the peripherals, no bus read and no bus write to another address than 0xFF0F clears an IF
bit, and a dispatch whose pushes do not write 0xFF0F clears no bit but that of its own source (R311, R315). -/
def Obligations.RequestsStayPending : Prop :=
  (∀ (k : Source) (s : State), request k s = s.setIrq (request k s).irq ∧
    (request k s).irq.enable = s.irq.enable ∧ ∀ j, j < 5 →
      (request k s).irq.flag.getLsbD j = (s.irq.flag.getLsbD j || decide (j = k.bit))) ∧
  (∀ (s : State) (j : Nat), s.irq.flag.getLsbD j = true → (tick s).irq.flag.getLsbD j = true) ∧
  (∀ (s : State) (a : Word) (j : Nat), s.irq.flag.getLsbD j = true → (busRead a s).2.irq.flag.getLsbD j = true) ∧
  (∀ (s : State) (a : Word) (v : Byte) (j : Nat), a ≠ 0xFF0F → s.irq.flag.getLsbD j = true →
    (busWrite a v s).irq.flag.getLsbD j = true) ∧
  (∀ (s : State) (k : Source) (j : Nat), j ≠ k.bit → s.regs.sp - 1 ≠ 0xFF0F → s.regs.sp - 2 ≠ 0xFF0F →
    s.irq.flag.getLsbD j = true → (takeInterrupt k s).irq.flag.getLsbD j = true)

/-! Time. -/

/-- `Tick(n)` adds `4 * n` to the clock, and every peripheral performs `4 * n` T-state steps, the timer and the serial
controller their own; the CPU, the interconnect, the input block, the cartridge, every setting and every byte of memory
stay (R12). -/
def Obligations.TimeLeavesTheCpuAlone : Prop :=
  ∀ (n : Nat) (s : State), tickN n s = tStates (4 * n) (s.setClock (s.clock + 4 * n)) ∧
    (tickN n s).timer = timerSteps (4 * n) s.timer ∧ (tickN n s).serial = serialSteps (4 * n) s.serial ∧
    OnlyReads s (tickN n s) n ∧ (tickN n s).regs = s.regs ∧ (tickN n s).slots = s.slots ∧
    (tickN n s).input = s.input ∧ (tickN n s).cartridge = s.cartridge ∧ (tickN n s).draws = s.draws

/-- One T-state of the timer (R350): the counter advances; a falling edge of the gated bit counts TIMA; a wrap reloads
TMA and requests interrupt 2 in the same T-state. -/
def Obligations.TimerStep : Prop :=
  ∀ (s : State), ∃ t, timerStep s = t ∧ t = (s.setTimer t.timer).setIrq t.irq ∧
    t.timer.div = s.timer.div + 1 ∧ t.timer.tma = s.timer.tma ∧ t.timer.tac = s.timer.tac ∧
    t.timer.prevEdge = (s.timer.tac.getLsbD 2 && t.timer.div.getLsbD
      (match (s.timer.tac.toNat % 4 : Nat) with | 0 => 9 | 1 => 3 | 2 => 5 | _ => 7)) ∧
    (s.timer.prevEdge = true → t.timer.prevEdge = false → s.timer.tima = 0xFF →
      t.timer.tima = s.timer.tma ∧ t.irq = { s.irq with flag := s.irq.flag ||| 0b00100 }) ∧
    (s.timer.prevEdge = true → t.timer.prevEdge = false → s.timer.tima ≠ 0xFF →
      t.timer.tima = s.timer.tima + 1 ∧ t.irq = s.irq) ∧
    (s.timer.prevEdge = false ∨ t.timer.prevEdge = true → t.timer.tima = s.timer.tima ∧ t.irq = s.irq)

/-- At the 16384 Hz setting, 256 T-states from any phase of the counter hold exactly one falling edge: TIMA counts by
one, or reloads (R352). -/
def Obligations.TimerPeriod : Prop :=
  ∀ (t : Timer), t.tac = 0b111 → t.prevEdge = t.div.getLsbD 7 →
    (∃ k, k < 256 ∧ (timerSteps k t).falls = true ∧ ∀ j, j < 256 → (timerSteps j t).falls = true → j = k) ∧
    (t.tima ≠ 0xFF → (timerSteps 256 t).tima = t.tima + 1) ∧
    (t.tima = 0xFF → (timerSteps 256 t).tima = t.tma)

/-- The registers of the interrupt controller, the timer and the serial controller on the bus, in both maps (R340, R341,
R346 to R349, R356, R357): IF reads with bits 7 to 5 set and a write replaces the low five; IE is a plain byte; DIV reads
the high byte and any write clears all sixteen bits but not the edge detector; TIMA and TMA are plain; TAC holds three
bits; SB reads 0xFF during a transfer; a write of SC starts or abandons one and does not touch the accumulator. -/
def Obligations.DeviceRegisters : Prop :=
  ∀ (s : State) (v : Byte), s.mapped →
    busRead 0xFF0F s = (0xE0 ||| s.irq.flag.setWidth 8, s) ∧ busRead 0xFFFF s = (s.irq.enable, s) ∧
    busWrite 0xFF0F v s = s.setIrq { s.irq with flag := v.extractLsb' 0 5 } ∧
    busWrite 0xFFFF v s = s.setIrq { s.irq with enable := v } ∧
    busRead 0xFF04 s = (BitVec.ofNat 8 (s.timer.div.toNat / 256), s) ∧ busRead 0xFF05 s = (s.timer.tima, s) ∧
    busRead 0xFF06 s = (s.timer.tma, s) ∧ busRead 0xFF07 s = (0xF8 ||| s.timer.tac.setWidth 8, s) ∧
    busWrite 0xFF04 v s = s.setTimer { s.timer with div := 0x0000 } ∧
    busWrite 0xFF05 v s = s.setTimer { s.timer with tima := v } ∧
    busWrite 0xFF06 v s = s.setTimer { s.timer with tma := v } ∧
    busWrite 0xFF07 v s = s.setTimer { s.timer with tac := v.extractLsb' 0 3 } ∧
    busRead 0xFF01 s = (if s.serial.running then 0xFF else s.serial.sb, s) ∧
    busRead 0xFF02 s = (0x7E ||| (if s.serial.running then 0x80 else 0x00) |||
      (if s.serial.internal then 0x01 else 0x00), s) ∧
    busWrite 0xFF01 v s = s.setSerial { s.serial with sb := v } ∧
    (v.getLsbD 7 = true → busWrite 0xFF02 v s = s.setSerial
      { s.serial with running := true, internal := v.getLsbD 0, bitCount := 0, outByte := 0x00 }) ∧
    (v.getLsbD 7 = false → busWrite 0xFF02 v s = s.setSerial
      { s.serial with running := false, internal := v.getLsbD 0 })

/-- A transfer on the internal clock completes at the eighth tick and not before: the byte shifted out is the one SB
held, SB holds the eight bits of the link, first bit in bit 7 (R358, R359); a completion requests interrupt 3 and hands
the byte to the host. -/
def Obligations.SerialTransferCompletes : Prop :=
  (∀ (c : Serial), c.running = true → c.internal = true → c.bitCount = 0 → c.outByte = 0x00 → c.acc < 512 →
    (∀ k, k < 4096 - c.acc → (serialSteps k c).running = true) ∧
    (serialSteps (4096 - c.acc) c).running = false ∧ (serialSteps (4096 - c.acc) c).bitCount = 8 ∧
    (serialSteps (4096 - c.acc) c).outByte = c.sb ∧
    ∀ i, i < 8 → (serialSteps (4096 - c.acc) c).sb.getLsbD i = c.line.getD (7 - i) true) ∧
  (∀ (s : State), s.serial.running = true → (serialStep s).serial.running = false →
    (serialStep s).irq.flag.getLsbD 3 = true ∧
    (serialStep s).events = .serialOut (serialStep s).serial.outByte :: s.events)

/-- On the external clock nothing is ever shifted: the transfer stays in progress (R360). -/
def Obligations.ExternalClockNeverShifts : Prop :=
  ∀ (c : Serial) (n : Nat), c.internal = false →
    ∃ acc, serialSteps n c = { c with acc := acc }

/-! Video. -/

/-- LY and the mode are functions of the frame counter (R369, R371). -/
def Obligations.ScanlineAndMode : Prop :=
  ∀ (v : Video), v.frameCycle < 70224 →
    v.ly.toNat = v.frameCycle / 456 ∧ v.ly.toNat ≤ 153 ∧
    (v.frameCycle < 65664 → v.frameCycle % 456 < 80 → v.mode = 2) ∧
    (v.frameCycle < 65664 → 80 ≤ v.frameCycle % 456 → v.frameCycle % 456 < 252 → v.mode = 3) ∧
    (v.frameCycle < 65664 → 252 ≤ v.frameCycle % 456 → v.mode = 0) ∧
    (65664 ≤ v.frameCycle → v.mode = 1)

/-- One T-state of the enabled video controller (R372): the frame counter advances; a new scanline compares LY with LYC
again; entering HBlank renders the line; entering VBlank requests interrupt 0 and hands the frame to the host; interrupt
1 is requested by a match and on entering OAM-read, HBlank and VBlank, each only where its select is set; nothing else
changes. Hence, from a frame counter of 0, VBlank is requested at the 65664th T-state and not before, the counter wraps
every 70224 T-states, and one frame is handed over per 70224 (R372, R378). -/
def Obligations.VideoStepAndVBlank : Prop :=
  (∀ (s : State), s.video.displayOn = true → ∃ c t, videoStep s = t ∧ c = (s.video.frameCycle + 1) % 70224 ∧
    t = (((s.setVideo t.video).setIrq t.irq).setFrameBuffer t.frameBuffer).setEvents t.events ∧
    t.video = { s.video with
      frameCycle := c
      lycEq := if c % 456 = 0 then decide (c / 456 = s.video.lyc.toNat) else s.video.lycEq } ∧
    t.frameBuffer = (if c < 65664 ∧ c % 456 = 252 then
      (renderLine (s.setVideo { s.video with frameCycle := c })).frameBuffer else s.frameBuffer) ∧
    t.events = (if c = 65664 then .frameOut s.frameBuffer :: s.events else s.events) ∧
    t.irq.enable = s.irq.enable ∧
    t.irq.flag.getLsbD 0 = (s.irq.flag.getLsbD 0 || decide (c = 65664)) ∧
    (t.irq.flag.getLsbD 1 = true ↔ s.irq.flag.getLsbD 1 = true ∨
      (c % 456 = 0 ∧ c / 456 = s.video.lyc.toNat ∧ s.video.statSel.getLsbD 3 = true) ∨
      (c < 65664 ∧ c % 456 = 0 ∧ s.video.statSel.getLsbD 2 = true) ∨
      (c < 65664 ∧ c % 456 = 252 ∧ s.video.statSel.getLsbD 0 = true) ∨
      (c = 65664 ∧ s.video.statSel.getLsbD 1 = true)) ∧
    (∀ j, 2 ≤ j → t.irq.flag.getLsbD j = s.irq.flag.getLsbD j)) ∧
  (∀ (s : State) (n : Nat), s.video.displayOn = true → s.video.frameCycle = 0 → s.irq.flag.getLsbD 0 = false →
    (tStates n s).video.frameCycle = n % 70224 ∧
    (tStates n s).irq.flag.getLsbD 0 = decide (65664 ≤ n) ∧
    (tStates n s).events.countP HostEvent.isFrame = s.events.countP HostEvent.isFrame + (n + 4560) / 70224)

/-- Disabling the display resets the frame counter and LY and compares again; enabling it restarts the frame without a
compare; a write that keeps bit 7 does neither; while disabled the video step does nothing (R366, R372, R374). -/
def Obligations.DisplayDisableAndEnable : Prop :=
  ∀ (s : State) (v : Byte),
    (s.video.displayOn = true → v.getLsbD 7 = false →
      (writeVideo 0xFF40 v s).video =
        { s.video with lcdc := v, frameCycle := 0, lycEq := decide (s.video.lyc = 0x00) } ∧
      (writeVideo 0xFF40 v s).video.ly = 0x00 ∧
      (writeVideo 0xFF40 v s).irq.flag =
        (if s.video.lyc = 0x00 ∧ s.video.statSel.getLsbD 3 = true then s.irq.flag ||| 0b00010 else s.irq.flag) ∧
      (writeVideo 0xFF40 v s).frameBuffer = s.frameBuffer) ∧
    (s.video.displayOn = false → v.getLsbD 7 = true →
      writeVideo 0xFF40 v s = s.setVideo { s.video with lcdc := v, frameCycle := 0 }) ∧
    (s.video.displayOn = v.getLsbD 7 → writeVideo 0xFF40 v s = s.setVideo { s.video with lcdc := v }) ∧
    (s.video.displayOn = false → videoStep s = s)

/-- Rendering a line writes its 160 pixels and no other, each the background colour of R373 (0 with the background
disabled), from video RAM and the registers as they are (R373, R376). -/
def Obligations.RenderLine : Prop :=
  ∀ (s : State) (x : Nat), s.video.frameCycle < 65664 → x < 160 →
    let y := s.video.frameCycle / 456
    let px := (x + s.video.scx.toNat) % 256
    let py := (y + s.video.scy.toNat) % 256
    let map := if s.video.lcdc.getLsbD 3 then 0x9C00 else 0x9800
    let t := (s.mem.read (map + py / 8 * 32 + px / 8)).toNat
    let tile := if s.video.lcdc.getLsbD 4 then 0x8000 + t * 16 else if t < 128 then 0x9000 + t * 16 else 0x8000 + t * 16
    let lo := (s.mem.read (tile + py % 8 * 2)).getLsbD (7 - px % 8)
    let hi := (s.mem.read (tile + py % 8 * 2 + 1)).getLsbD (7 - px % 8)
    let idx := hi.toNat * 2 + lo.toNat
    ((renderLine s).frameBuffer.read (y * 160 + x)).toNat =
      (if s.video.lcdc.getLsbD 0 then s.video.bgp.toNat / 4 ^ idx % 4 else 0) ∧
    (∀ k, k < y * 160 ∨ y * 160 + 160 ≤ k → (renderLine s).frameBuffer.read k = s.frameBuffer.read k)

/-- The video registers on the bus, in both maps (R366 to R370, R377): what each read answers and what each write changes.
The plain registers hold what was written; STAT stores its selects only and reads bit 7 as 1 with the compare flag and the
mode; LY ignores writes; a write of LYC compares: the flag is LY = LYC, and a match requests interrupt 1 when STAT bit 6
is set, and only then; a write of LCDC is the one of `DisplayDisableAndEnable`; DMA reads back. -/
def Obligations.VideoRegistersReadBack : Prop :=
  ∀ (s : State) (v : Byte), s.mapped →
    busRead 0xFF40 s = (s.video.lcdc, s) ∧ busRead 0xFF42 s = (s.video.scy, s) ∧ busRead 0xFF43 s = (s.video.scx, s) ∧
    busRead 0xFF45 s = (s.video.lyc, s) ∧ busRead 0xFF46 s = (s.video.dma, s) ∧ busRead 0xFF47 s = (s.video.bgp, s) ∧
    busRead 0xFF48 s = (s.video.obp0, s) ∧ busRead 0xFF49 s = (s.video.obp1, s) ∧ busRead 0xFF4A s = (s.video.wy, s) ∧
    busRead 0xFF4B s = (s.video.wx, s) ∧ busRead 0xFF44 s = (BitVec.ofNat 8 (s.video.frameCycle / 456), s) ∧
    busRead 0xFF41 s = (0x80 ||| (s.video.statSel.setWidth 8 <<< 3) ||| (if s.video.lycEq then 0x04 else 0x00) |||
      s.video.mode.setWidth 8, s) ∧
    busWrite 0xFF40 v s = writeVideo 0xFF40 v s ∧ (busWrite 0xFF40 v s).video.lcdc = v ∧
    busWrite 0xFF41 v s = s.setVideo { s.video with statSel := v.extractLsb' 3 4 } ∧
    busWrite 0xFF42 v s = s.setVideo { s.video with scy := v } ∧
    busWrite 0xFF43 v s = s.setVideo { s.video with scx := v } ∧ busWrite 0xFF44 v s = s ∧
    busWrite 0xFF45 v s = (s.setVideo { s.video with lyc := v, lycEq := decide (s.video.ly = v) }).setIrq
      { s.irq with flag :=
          if s.video.ly = v ∧ s.video.statSel.getLsbD 3 = true then s.irq.flag ||| 0b00010 else s.irq.flag } ∧
    busRead 0xFF46 (busWrite 0xFF46 v s) = (v, busWrite 0xFF46 v s) ∧
    busWrite 0xFF47 v s = s.setVideo { s.video with bgp := v } ∧
    busWrite 0xFF48 v s = s.setVideo { s.video with obp0 := v } ∧
    busWrite 0xFF49 v s = s.setVideo { s.video with obp1 := v } ∧
    busWrite 0xFF4A v s = s.setVideo { s.video with wy := v } ∧
    busWrite 0xFF4B v s = s.setVideo { s.video with wx := v } ∧
    palette v = [v.extractLsb' 0 2, v.extractLsb' 2 2, v.extractLsb' 4 2, v.extractLsb' 6 2]

/-- OAM DMA (R377): for every value written the register holds it, memory outside OAM and the CPU are untouched and the
stall is charged; OAM receives the 160 bytes that the bus reads one after the other from the page; from a page of work RAM,
of its mirror, of video RAM, of cartridge RAM, or of cartridge ROM once the lockout has fired, these are the bytes stored
there. -/
def Obligations.OamDmaCopiesAPage : Prop :=
  ∀ (s : State) (v : Byte), s.mapped →
    (busWrite 0xFF46 v s).video.dma = v ∧ (busWrite 0xFF46 v s).regs = s.regs ∧
    (busWrite 0xFF46 v s).clock = s.clock + 4 * s.params.dmaStallMCycles ∧
    (∀ k, k < 0xFE00 ∨ 0xFEA0 ≤ k → (busWrite 0xFF46 v s).mem.read k = s.mem.read k) ∧
    (∀ i, i < 160 → (busWrite 0xFF46 v s).mem.read (0xFE00 + i) =
      (busRead (BitVec.ofNat 16 (256 * v.toNat + i)) (dmaCopy v i 0 (s.setVideo { s.video with dma := v }))).1) ∧
    ((0xC0 ≤ v.toNat ∧ v.toNat < 0xE0) ∨ (0x80 ≤ v.toNat ∧ v.toNat < 0xA0) ∨
        (0xA0 ≤ v.toNat ∧ v.toNat < 0xC0 ∧ s.params.cart = .romRam) ∨
        (v.toNat < 0x80 ∧ s.slots = slotsWithCartridge ∧ s.params.cart ≠ .agent) →
      ∀ i, i < 160 → (busWrite 0xFF46 v s).mem.read (0xFE00 + i) = s.mem.read (256 * v.toNat + i)) ∧
    (0xE0 ≤ v.toNat → v.toNat < 0xFE →
      ∀ i, i < 160 → (busWrite 0xFF46 v s).mem.read (0xFE00 + i) = s.mem.read (256 * v.toNat + i - 0x2000))

/-! Input. -/

/-- A read of P1 polls: the selected groups read 0 where a button is pressed, bits 7 and 6 read 1, a press since the
last poll requests interrupt 4; a write stores the two select bits (R385, R386). -/
def Obligations.InputRegister : Prop :=
  ∀ (s : State) (v : Byte), s.mapped →
    let now := s.input.next
    let dir := fun j => match (j : Nat) with | 0 => now.right | 1 => now.left | 2 => now.up | _ => now.down
    let btn := fun j => match (j : Nat) with | 0 => now.a | 1 => now.b | 2 => now.select | _ => now.start
    (∀ j, j < 4 → (busRead 0xFF00 s).1.getLsbD j =
      ((s.input.select.getLsbD 0 || !dir j) && (s.input.select.getLsbD 1 || !btn j))) ∧
    (busRead 0xFF00 s).1.getLsbD 4 = s.input.select.getLsbD 0 ∧
    (busRead 0xFF00 s).1.getLsbD 5 = s.input.select.getLsbD 1 ∧
    (busRead 0xFF00 s).1.getLsbD 6 = true ∧ (busRead 0xFF00 s).1.getLsbD 7 = true ∧
    (busRead 0xFF00 s).2.input = { s.input with prev := now, polls := s.input.polls.tail } ∧
    (busRead 0xFF00 s).2.irq.flag = (if s.pressSeen then s.irq.flag ||| 0b10000 else s.irq.flag) ∧
    busWrite 0xFF00 v s = s.setInput { s.input with select := v.extractLsb' 4 2 }

/-! The interconnect and memory. -/

/-- `rebind_from(lo, hi, source)` gives every address of the inclusive range the handler that owns `source`, and no other
address another handler (R56, R58); that handler still receives the real bus address, so cartridge ROM rebound over
0x0000-0x00FF serves ROM bytes 0x0000-0x00FF (`CartridgeAndAbsentStorage` says the same of a cartridge agent). -/
def Obligations.RebindCopiesTheOwner : Prop :=
  (∀ (t : SlotTable) (lo hi source : Word), t.Pairwise (fun c d => c.1 < d.1) → (∃ c ∈ t, hi.toNat ≤ c.1) →
    lo ≤ hi → ∀ a : Nat, (t.rebindFrom lo hi source).slot a =
      if lo.toNat ≤ a ∧ a ≤ hi.toNat then t.slot source.toNat else t.slot a) ∧
  (∀ (s : State) (a : Word), s.handler a = .cartridge → s.params.cart ≠ .agent → a.toNat < 0x8000 →
    busRead a s = (s.mem.read a.toNat, s))

/-- The reset map of R62, range by range; below 0x0100 it is the boot ROM in one map and the cartridge in the other. -/
def Obligations.MemoryMap : Prop :=
  (∀ a : Nat, a ≤ 0x00FF → slotsWithBootRom.slot a = .bootRom ∧ slotsWithCartridge.slot a = .cartridge) ∧
  (∀ t, t = slotsWithBootRom ∨ t = slotsWithCartridge →
    ∀ r, r ∈ [(0x0100, 0x7FFF, Handler.cartridge), (0x8000, 0x9FFF, .videoRam), (0xA000, 0xBFFF, .cartridge),
      (0xC000, 0xDFFF, .workRam), (0xE000, 0xFDFF, .workRam), (0xFE00, 0xFE9F, .oam), (0xFEA0, 0xFEFF, .unusable),
      (0xFF00, 0xFF00, .input), (0xFF01, 0xFF02, .serial), (0xFF03, 0xFF03, .unmapped), (0xFF04, 0xFF07, .timer),
      (0xFF08, 0xFF0E, .unmapped), (0xFF0F, 0xFF0F, .interruptController), (0xFF10, 0xFF3F, .sound),
      (0xFF40, 0xFF4B, .videoRegisters), (0xFF4C, 0xFF4F, .unmapped), (0xFF50, 0xFF50, lockout),
      (0xFF51, 0xFF7F, .unmapped), (0xFF80, 0xFFFE, .highRam), (0xFFFF, 0xFFFF, .interruptController)] →
    ∀ a : Nat, r.1 ≤ a → a ≤ r.2.1 → t.slot a = r.2.2)

/-- The boot-ROM lockout (R60): a write of any value to 0xFF50 makes 0x0000-0x00FF the cartridge's, so that it reads as
cartridge ROM, and changes nothing else; firing it again changes nothing; 0xFF50 reads 0xFF before and after. -/
def Obligations.BootRomLockout : Prop :=
  (∀ (s : State) (v : Byte), s.slots = slotsWithBootRom →
    busWrite 0xFF50 v s = s.setSlots slotsWithCartridge ∧ busRead 0xFF50 s = (0xFF, s) ∧
    (∀ a : Word, a.toNat < 0x100 → (busWrite 0xFF50 v s).handler a = .cartridge ∧
      (s.params.cart ≠ .agent → (busRead a (busWrite 0xFF50 v s)).1 = s.mem.read a.toNat))) ∧
  (∀ (s : State) (v : Byte), s.slots = slotsWithCartridge →
    busWrite 0xFF50 v s = s ∧ busRead 0xFF50 s = (0xFF, s))

/-- There is no way to map the boot ROM back: once the lockout has fired, no step changes the interconnect (R60). -/
def Obligations.LockoutIsForEver : Prop :=
  ∀ (s t : State), s.slots = slotsWithCartridge → step s = .next t → t.slots = slotsWithCartridge

/-- A triggered mapping answers 0xFF to every read and discards every write; it rebinds on an access of its trigger type
and on no other (R59). -/
def Obligations.TriggeredMapping : Prop :=
  ∀ (s : State) (a x y z : Word) (kind : TriggerType) (v : Byte), s.handler a = .triggered kind x y z →
    busRead a s =
      (0xFF, if kind = .read ∨ kind = .both then s.setSlots (s.slots.rebindFrom x y z) else s) ∧
    busWrite a v s = if kind = .write ∨ kind = .both then s.setSlots (s.slots.rebindFrom x y z) else s

/-- A read returns the latest write to the same storage byte, through any alias, and a write to one byte leaves every
other as it was; the mirror 0xE000-0xFDFF names the bytes of 0xC000-0xDDFF, and a cartridge with RAM keeps the bytes of
0xA000-0xBFFF (R65 to R68, R71, R76; that RAM is the model's, log 3). -/
def Obligations.RamReadsBack : Prop :=
  (∀ (s : State) (a b : Word) (v : Byte) (k : Nat), s.cellOf a = some k → s.cellOf b = some k →
    busRead b (busWrite a v s) = (v, busWrite a v s)) ∧
  (∀ (s : State) (a b : Word) (v : Byte) (k j : Nat), s.cellOf a = some k → s.cellOf b = some j → j ≠ k →
    (busRead b (busWrite a v s)).1 = (busRead b s).1) ∧
  (∀ (s : State) (a : Word), s.mapped → 0xC000 ≤ a.toNat → a.toNat < 0xDE00 →
    s.cellOf a = some a.toNat ∧ s.cellOf (a + 0x2000) = some a.toNat) ∧
  (∀ (s : State) (a : Word), s.mapped → s.params.cart = .romRam → 0xA000 ≤ a.toNat → a.toNat < 0xC000 →
    s.cellOf a = some a.toNat)

/-- Where nothing is stored: the unmapped addresses read 0xFF, the unusable range reads 0x00; writes there, to the boot
ROM and to the sound stub change nothing; a sound read changes nothing the spec names (R55, R63, R68 to R70). The
cartridge (R66): the default one reads its image below 0x8000 and 0xFF where it has no RAM, and discards writes; one with
RAM discards writes to its image; an agent is handed every read and write with the bus address unchanged, answers the
reads, and nothing else changes (that an agent answers from a list, and freely past it, is the model's choice, log 3). -/
def Obligations.CartridgeAndAbsentStorage : Prop :=
  ∀ (s : State) (a : Word) (v : Byte), s.mapped →
    (s.handler a = .unmapped → busRead a s = (0xFF, s) ∧ busWrite a v s = s) ∧
    (s.handler a = .unusable → busRead a s = (0x00, s) ∧ busWrite a v s = s) ∧
    (s.handler a = .bootRom → busWrite a v s = s) ∧
    (s.handler a = .sound → busWrite a v s = s ∧ (busRead a s).2 = s.setDraws (busRead a s).2.draws) ∧
    (s.handler a = .cartridge → s.params.cart ≠ .agent → a.toNat < 0x8000 →
      busRead a s = (s.mem.read a.toNat, s) ∧ busWrite a v s = s) ∧
    (s.handler a = .cartridge → s.params.cart = .romOnly → 0x8000 ≤ a.toNat →
      busRead a s = (0xFF, s) ∧ busWrite a v s = s) ∧
    (s.handler a = .cartridge → s.params.cart = .agent →
      busRead a s = ((busRead a s).1, s.setCartridge
        { answers := s.cartridge.answers.tail, accesses := .read a (busRead a s).1 :: s.cartridge.accesses }) ∧
      (∀ b rest, s.cartridge.answers = b :: rest → (busRead a s).1 = b) ∧
      (s.cartridge.answers = [] → (busRead a s).1 = Config.cartridgeRead s.cartridge.accesses a) ∧
      busWrite a v s = s.setCartridge { s.cartridge with accesses := .write a v :: s.cartridge.accesses })

/-! Instructions: results, completion and frames. -/

/-- `LD r,r'` and `LD r,n` (R120, R121): the destination, and nothing else of the machine. -/
def Obligations.RegisterLoads : Prop :=
  (∀ (d r : Reg8) (s : State), ∃ t, exec (Form.ldRR d r).toInstr s = .next t ∧ OnlyRegs s t ∧
    t.reg8 d = s.reg8 r ∧ (∀ q, q ≠ d → t.reg8 q = s.reg8 q) ∧
    t.regs.f = s.regs.f ∧ t.regs.sp = s.regs.sp ∧ t.regs.pc = s.regs.pc) ∧
  (∀ (d : Reg8) (n : Byte) (s : State), ∃ t, exec (Form.ldRN d n).toInstr s = .next t ∧ OnlyRegs s t ∧
    t.reg8 d = n ∧ (∀ q, q ≠ d → t.reg8 q = s.reg8 q) ∧
    t.regs.f = s.regs.f ∧ t.regs.sp = s.regs.sp ∧ t.regs.pc = s.regs.pc)

/-- The loads through memory (R122, R125, R126, R129, R131, R133, R135, R136): the byte at the address the form names;
HL moves only in the `(HLI)` and `(HLD)` forms; no flag and no memory byte changes. -/
def Obligations.MemoryLoads : Prop :=
  ∀ (s : State),
    (∀ d, LoadsByte (.ldRHL d) d (joinBytes s.regs.h s.regs.l) id s) ∧
    LoadsByte .ldABC .A (joinBytes s.regs.b s.regs.c) id s ∧
    LoadsByte .ldADE .A (joinBytes s.regs.d s.regs.e) id s ∧
    (∀ nn, LoadsByte (.ldANN nn) .A nn id s) ∧
    LoadsByte .ldAC .A (joinBytes 0xFF s.regs.c) id s ∧
    (∀ n, LoadsByte (.ldAN n) .A (joinBytes 0xFF n) id s) ∧
    LoadsByte .ldAHLI .A (joinBytes s.regs.h s.regs.l)
      (fun g => { g with h := hiByte (joinBytes g.h g.l + 1), l := loByte (joinBytes g.h g.l + 1) }) s ∧
    LoadsByte .ldAHLD .A (joinBytes s.regs.h s.regs.l)
      (fun g => { g with h := hiByte (joinBytes g.h g.l - 1), l := loByte (joinBytes g.h g.l - 1) }) s

/-- The byte stores (R123, R124, R127, R128, R130, R132, R134, R137, R138): the value at the address the form names; HL
moves only in the `(HLI)` and `(HLD)` forms; no other register, no flag, no other byte of memory changes. -/
def Obligations.MemoryStores : Prop :=
  ∀ (s : State),
    (∀ r, StoresByte (.ldHLR r) (joinBytes s.regs.h s.regs.l) (s.reg8 r) id s) ∧
    (∀ n, StoresByte (.ldHLN n) (joinBytes s.regs.h s.regs.l) n id s) ∧
    StoresByte .ldBCA (joinBytes s.regs.b s.regs.c) s.regs.a id s ∧
    StoresByte .ldDEA (joinBytes s.regs.d s.regs.e) s.regs.a id s ∧
    (∀ nn, StoresByte (.ldNNA nn) nn s.regs.a id s) ∧
    StoresByte .ldCA (joinBytes 0xFF s.regs.c) s.regs.a id s ∧
    (∀ n, StoresByte (.ldNA n) (joinBytes 0xFF n) s.regs.a id s) ∧
    StoresByte .ldHLIA (joinBytes s.regs.h s.regs.l) s.regs.a
      (fun g => { g with h := hiByte (joinBytes g.h g.l + 1), l := loByte (joinBytes g.h g.l + 1) }) s ∧
    StoresByte .ldHLDA (joinBytes s.regs.h s.regs.l) s.regs.a
      (fun g => { g with h := hiByte (joinBytes g.h g.l - 1), l := loByte (joinBytes g.h g.l - 1) }) s

/-- `LD dd,nn` and `LD SP,HL` (R150, R151): the pair, no flag, no other register, nothing in memory. -/
def Obligations.PairLoads : Prop :=
  (∀ (nn : Word) (s : State),
    exec (Form.ldPairNN .BC nn).toInstr s = .next (s.setRegs { s.regs with b := hiByte nn, c := loByte nn }) ∧
    exec (Form.ldPairNN .DE nn).toInstr s = .next (s.setRegs { s.regs with d := hiByte nn, e := loByte nn }) ∧
    exec (Form.ldPairNN .HL nn).toInstr s = .next (s.setRegs { s.regs with h := hiByte nn, l := loByte nn }) ∧
    exec (Form.ldPairNN .SP nn).toInstr s = .next (s.setRegs { s.regs with sp := nn })) ∧
  (∀ (s : State), ∃ t, exec Form.ldSPHL.toInstr s = .next t ∧
    t.regs = { s.regs with sp := joinBytes s.regs.h s.regs.l } ∧ OnlyReads s t 1)

/-- `LDHL SP,e` and `ADD SP,e` (R153, R201): the 16-bit sum with the sign-extended byte, the flags from the unsigned
addition of the low bytes; SP stays in the first, HL in the second. -/
def Obligations.StackPointerSums : Prop :=
  ∀ (e : Byte) (s : State),
    (∃ t sum, exec (Form.ldhlSPE e).toInstr s = .next t ∧
      (sum : Word).toInt = (s.regs.sp.toInt + e.toInt).bmod 65536 ∧
      t.regs = { s.regs with h := hiByte sum, l := loByte sum, f := t.regs.f } ∧
      lowByteFlags s.regs.sp e t.regs.f ∧ OnlyReads s t 1) ∧
    (∃ t, exec (Form.addSPE e).toInstr s = .next t ∧
      t.regs.sp.toInt = (s.regs.sp.toInt + e.toInt).bmod 65536 ∧
      t.regs = { s.regs with sp := t.regs.sp, f := t.regs.f } ∧
      lowByteFlags s.regs.sp e t.regs.f ∧ OnlyReads s t 2)

/-- `LD (nn),SP` (R152): SP's low byte at `nn`, its high byte at `nn + 1`, in this order; no register or flag changes. -/
def Obligations.StoreStackPointer : Prop :=
  ∀ (nn : Word) (s : State), ∃ t u, exec (Form.ldNNSP nn).toInstr s = .next t ∧
    u = busWrite nn (loByte s.regs.sp) (tick s) ∧ t = busWrite (nn + 1) (hiByte s.regs.sp) (tick u) ∧
    t.regs = s.regs ∧ OnlyStores s t (s.cellsWritten nn ++ u.cellsWritten (nn + 1)) ∧
    (∀ k1 k2, s.cellOf nn = some k1 → s.cellOf (nn + 1) = some k2 →
      t.mem.read k1 = loByte s.regs.sp ∧ t.mem.read k2 = hiByte s.regs.sp ∧ t.clock = s.clock + 8 ∧
      t.settings = s.settings)

/-- `PUSH qq` (R154): an internal cycle, then the high byte at SP - 1 and after it the low byte at SP - 2, wherever these
lie; SP is two less; no other register and no flag changes. -/
def Obligations.PushWritesTheStack : Prop :=
  ∀ (p : Pair) (s : State), p.inRp2 = true → ∃ t, exec (Form.push p).toInstr s = .next t ∧
    t = (pushedBytes (s.regs.getPair p) s.regs.sp (tick s)).setRegs { s.regs with sp := s.regs.sp - 2 } ∧
    SameControl s t ∧ PushesBytes (s.regs.getPair p) s (tick s) t ∧
    (∀ k1 k2, s.cellOf (s.regs.sp - 1) = some k1 → s.cellOf (s.regs.sp - 2) = some k2 →
      t.clock = s.clock + 12 ∧ t.settings = s.settings)

/-- `POP qq` and `POP AF` (R155, R156): the low register from the byte at SP, the high one from the byte at SP + 1; SP
is two more; `POP AF` writes the four flags from bits 7 to 4 and F's low nibble stays zero; nothing in memory
changes. -/
def Obligations.PopReadsTheStack : Prop :=
  ∀ (s : State), ∃ lo hi u, memRead s.regs.sp s = (lo, u) ∧ (memRead (s.regs.sp + 1) (u.setSp (s.regs.sp + 1))).1 = hi ∧
    (∀ b, s.peek s.regs.sp = some b → lo = b) ∧
    (∃ t, exec (Form.pop .BC).toInstr s = .next t ∧
      t.regs = { s.regs with sp := s.regs.sp + 2, b := hi, c := lo } ∧ OnlyReads s t 2) ∧
    (∃ t, exec (Form.pop .DE).toInstr s = .next t ∧
      t.regs = { s.regs with sp := s.regs.sp + 2, d := hi, e := lo } ∧ OnlyReads s t 2) ∧
    (∃ t, exec (Form.pop .HL).toInstr s = .next t ∧
      t.regs = { s.regs with sp := s.regs.sp + 2, h := hi, l := lo } ∧ OnlyReads s t 2) ∧
    (∃ t, exec Form.popAF.toInstr s = .next t ∧
      t.regs = { s.regs with sp := s.regs.sp + 2, a := hi, f := t.regs.f } ∧
      t.regs.f.toByte = lo &&& 0xF0 ∧ OnlyReads s t 2)

/-- Popping what was pushed restores SP and returns the value (R15), with the stack in RAM. -/
def Obligations.PushThenPop : Prop :=
  ∀ (v : Word) (s : State) (k1 k2 : Nat), s.cellOf (s.regs.sp - 1) = some k1 → s.cellOf (s.regs.sp - 2) = some k2 →
    (pop16 (push16 v s)).1 = v ∧ (pop16 (push16 v s)).2.regs = s.regs

/-- The eight accumulator operations with each second operand (R170 to R194): A and F as R170 computes them, `CP`
leaving A; no other register, no memory byte; the byte at HL costs one M-cycle. -/
def Obligations.AccumulatorOperations : Prop :=
  ∀ (op : AluOp) (s : State),
    (∀ r, ∃ t, exec (Form.aluR op r).toInstr s = .next t ∧ OnlyRegs s t ∧
      t.regs = { s.regs with a := t.regs.a, f := t.regs.f } ∧
      AluLeaves op s.regs.a (s.reg8 r) s.regs.f.c t.regs.a t.regs.f) ∧
    (∀ n, ∃ t, exec (Form.aluN op n).toInstr s = .next t ∧ OnlyRegs s t ∧
      t.regs = { s.regs with a := t.regs.a, f := t.regs.f } ∧
      AluLeaves op s.regs.a n s.regs.f.c t.regs.a t.regs.f) ∧
    (∃ t, exec (Form.aluHL op).toInstr s = .next t ∧ OnlyReads s t 1 ∧
      t.regs = { s.regs with a := t.regs.a, f := t.regs.f } ∧
      AluLeaves op s.regs.a (memRead (joinBytes s.regs.h s.regs.l) s).1 s.regs.f.c t.regs.a t.regs.f ∧
      (∀ b, s.peek (joinBytes s.regs.h s.regs.l) = some b → (memRead (joinBytes s.regs.h s.regs.l) s).1 = b))

/-- `INC` and `DEC` on a register and on the byte at HL (R195 to R198). -/
def Obligations.IncrementsAndDecrements : Prop :=
  ∀ (s : State),
    (∀ r, ∃ t, exec (Form.incR r).toInstr s = .next t ∧ OnlyRegs s t ∧
      t.regs = { s.regs.set8 r (t.reg8 r) with f := t.regs.f } ∧
      CountsTo true (s.reg8 r) s.regs.f (t.reg8 r) t.regs.f) ∧
    (∀ r, ∃ t, exec (Form.decR r).toInstr s = .next t ∧ OnlyRegs s t ∧
      t.regs = { s.regs.set8 r (t.reg8 r) with f := t.regs.f } ∧
      CountsTo false (s.reg8 r) s.regs.f (t.reg8 r) t.regs.f) ∧
    (∃ t v res, exec Form.incHL.toInstr s = .next t ∧ RewritesByteAtHL s t v res ∧
      CountsTo true v s.regs.f res t.regs.f) ∧
    (∃ t v res, exec Form.decHL.toInstr s = .next t ∧ RewritesByteAtHL s t v res ∧
      CountsTo false v s.regs.f res t.regs.f)

/-- `ADD HL,ss`, `INC ss`, `DEC ss` (R200, R202, R203): sums modulo 2^16; `ADD HL,ss` keeps Z, clears N and sets H and C
from bits 11 and 15; the other two write no flag; one internal cycle. -/
def Obligations.PairArithmetic : Prop :=
  ∀ (p : Pair) (s : State), p.inRp = true →
    (∃ t, exec (Form.addHLPair p).toInstr s = .next t ∧ OnlyReads s t 1 ∧
      t.regs = { s.regs.setPair .HL (s.regs.getPair .HL + s.regs.getPair p) with f := t.regs.f } ∧
      t.regs.f.z = s.regs.f.z ∧ t.regs.f.n = false ∧
      (t.regs.f.h = true ↔ (s.regs.getPair .HL).toNat % 4096 + (s.regs.getPair p).toNat % 4096 > 4095) ∧
      (t.regs.f.c = true ↔ (s.regs.getPair .HL).toNat + (s.regs.getPair p).toNat > 65535)) ∧
    (∃ t, exec (Form.incPair p).toInstr s = .next t ∧ OnlyReads s t 1 ∧
      t.regs = s.regs.setPair p (s.regs.getPair p + 1)) ∧
    (∃ t, exec (Form.decPair p).toInstr s = .next t ∧ OnlyReads s t 1 ∧
      t.regs = s.regs.setPair p (s.regs.getPair p - 1))

/-- The rotates of A (R210 to R213), and the rotates, shifts and `SWAP` of the CB table on a register and on the byte at
HL (R214 to R230): the result bit by bit, C the bit moved out, N and H clear, Z from the result but always 0 for the
rotates of A. -/
def Obligations.RotatesAndShifts : Prop :=
  (∀ (s : State) (op : ShiftOp) (f : Form),
    (op, f) ∈ [(ShiftOp.rlc, Form.rlca), (.rl, .rla), (.rrc, .rrca), (.rr, .rra)] →
    ∃ t out, exec f.toInstr s = .next t ∧ OnlyRegs s t ∧ t.regs = { s.regs with a := t.regs.a, f := t.regs.f } ∧
      ShiftLeaves op s.regs.a s.regs.f.c t.regs.a out ∧
      t.regs.f = { z := false, n := false, h := false, c := out }) ∧
  (∀ (s : State) (op : ShiftOp) (r : Reg8), ∃ t out, exec (Form.shiftR op r).toInstr s = .next t ∧ OnlyRegs s t ∧
    t.regs = { s.regs.set8 r (t.reg8 r) with f := t.regs.f } ∧
    ShiftLeaves op (s.reg8 r) s.regs.f.c (t.reg8 r) out ∧ shiftFlags (t.reg8 r) out t.regs.f) ∧
  (∀ (s : State) (op : ShiftOp), ∃ t v res out, exec (Form.shiftHL op).toInstr s = .next t ∧
    RewritesByteAtHL s t v res ∧ ShiftLeaves op v s.regs.f.c res out ∧ shiftFlags res out t.regs.f)

/-- `BIT` (R231, R232): Z set iff the tested bit is clear, N clear, H set, C kept, the operand unchanged; the form on
(HL) reads once and writes nothing. -/
def Obligations.BitTest : Prop :=
  ∀ (b : Code3) (s : State),
    (∀ r, ∃ t, exec (Form.bitR b r).toInstr s = .next t ∧ OnlyRegs s t ∧ t.regs = { s.regs with f := t.regs.f } ∧
      (t.regs.f.z = true ↔ (s.reg8 r).getLsbD b.val = false) ∧ t.regs.f.n = false ∧ t.regs.f.h = true ∧
      t.regs.f.c = s.regs.f.c) ∧
    (∃ t v, exec (Form.bitHL b).toInstr s = .next t ∧ OnlyReads s t 1 ∧ t.regs = { s.regs with f := t.regs.f } ∧
      v = (memRead (joinBytes s.regs.h s.regs.l) s).1 ∧
      (∀ w, s.peek (joinBytes s.regs.h s.regs.l) = some w → v = w) ∧
      (t.regs.f.z = true ↔ v.getLsbD b.val = false) ∧ t.regs.f.n = false ∧ t.regs.f.h = true ∧
      t.regs.f.c = s.regs.f.c)

/-- `RES` and `SET` (R233 to R236): bit `b` cleared or set and every other bit kept; no flag; the forms on (HL) write the
byte back. -/
def Obligations.BitResetAndSet : Prop :=
  ∀ (b : Code3) (s : State) (f : Reg8 → Form) (g : Form) (x : Bool),
    (f = Form.resR b ∧ g = Form.resHL b ∧ x = false) ∨ (f = Form.setR b ∧ g = Form.setHL b ∧ x = true) →
    (∀ r, ∃ t, exec (f r).toInstr s = .next t ∧ OnlyRegs s t ∧ t.regs = s.regs.set8 r (t.reg8 r) ∧
      (∀ i, i < 8 → (t.reg8 r).getLsbD i = if i = b.val then x else (s.reg8 r).getLsbD i)) ∧
    (∃ t v res, exec g.toInstr s = .next t ∧ RewritesByteAtHL s t v res ∧ t.regs = s.regs ∧
      (∀ i, i < 8 → res.getLsbD i = if i = b.val then x else v.getLsbD i))

/-- The jumps (R241 to R245): PC at the target, after one internal cycle but for `JP (HL)`; a jump whose condition fails
changes nothing; no other register, no flag, no memory byte. -/
def Obligations.Jumps : Prop :=
  ∀ (s : State),
    exec Form.jpHL.toInstr s = .next (s.setRegs { s.regs with pc := joinBytes s.regs.h s.regs.l }) ∧
    (∀ nn, ∃ t, exec (Form.jpNN nn).toInstr s = .next t ∧ t.regs = { s.regs with pc := nn } ∧ OnlyReads s t 1) ∧
    (∀ e, ∃ t, exec (Form.jrE e).toInstr s = .next t ∧
      t.regs = { s.regs with pc := s.regs.pc + e.signExtend 16 } ∧ OnlyReads s t 1) ∧
    (∀ cc nn, condHolds cc s.regs.f = true → ∃ t, exec (Form.jpCC cc nn).toInstr s = .next t ∧
      t.regs = { s.regs with pc := nn } ∧ OnlyReads s t 1) ∧
    (∀ cc e, condHolds cc s.regs.f = true → ∃ t, exec (Form.jrCC cc e).toInstr s = .next t ∧
      t.regs = { s.regs with pc := s.regs.pc + e.signExtend 16 } ∧ OnlyReads s t 1) ∧
    (∀ cc nn e, condHolds cc s.regs.f = false →
      exec (Form.jpCC cc nn).toInstr s = .next s ∧ exec (Form.jrCC cc e).toInstr s = .next s) ∧
    condHolds .NZ s.regs.f = !s.regs.f.z ∧ condHolds .Z s.regs.f = s.regs.f.z ∧
    condHolds .NC s.regs.f = !s.regs.f.c ∧ condHolds .C s.regs.f = s.regs.f.c

/-- The calls (R246, R247, R252): PC, the address after the instruction, is pushed, high byte first; `RST t` goes to
`8 * t`; a call whose condition fails changes nothing. -/
def Obligations.CallsAndRestarts : Prop :=
  ∀ (s : State),
    (∀ nn, Calls (.callNN nn) nn s) ∧
    (∀ cc nn, condHolds cc s.regs.f = true → Calls (.callCC cc nn) nn s) ∧
    (∀ cc nn, condHolds cc s.regs.f = false → exec (Form.callCC cc nn).toInstr s = .next s) ∧
    (∀ c, Calls (.rst c) (BitVec.ofNat 16 (8 * c.val)) s)

/-- The returns (R248 to R250): PC from the two bytes at SP, low byte first, SP two more, one internal cycle last;
`RET cc` spends one more before the condition is looked at, and not taken does nothing else; `RETI` also sets IME and
clears `ei_pending`, at once. -/
def Obligations.Returns : Prop :=
  ∀ (s : State),
    (∃ t, exec Form.ret.toInstr s = .next t ∧ OnlyReads s t 3 ∧
      t.regs = { s.regs with sp := s.regs.sp + 2, pc := (pop16 s).1 }) ∧
    (∀ cc, condHolds cc s.regs.f = true → ∃ t, exec (Form.retCC cc).toInstr s = .next t ∧ OnlyReads s t 4 ∧
      t.regs = { s.regs with sp := s.regs.sp + 2, pc := (pop16 (tick s)).1 }) ∧
    (∀ cc, condHolds cc s.regs.f = false → exec (Form.retCC cc).toInstr s = .next (tick s)) ∧
    (∃ t u, exec Form.reti.toInstr s = .next t ∧ OnlyReads s u 3 ∧ t = (u.setIme true).setEiPending false ∧
      u.regs = { s.regs with sp := s.regs.sp + 2, pc := (pop16 s).1 }) ∧
    (∀ lo hi, s.peek s.regs.sp = some lo → s.peek (s.regs.sp + 1) = some hi →
      (pop16 s).1 = joinBytes hi lo ∧ (pop16 (tick s)).1 = joinBytes hi lo)

/-- `DAA` (R261): the correction of A that R261 computes, Z from the new A, N kept, H clear, C set by the high correction
and never cleared; nothing else of the machine changes. -/
def Obligations.DecimalAdjust : Prop :=
  ∀ (s : State), ∃ t corr, exec Form.daa.toInstr s = .next t ∧ OnlyRegs s t ∧
    t.regs = { s.regs with a := t.regs.a, f := t.regs.f } ∧
    (s.regs.f.n = false →
      corr = (if s.regs.f.h = true ∨ s.regs.a.toNat % 16 > 9 then 0x06 else 0x00) +
        (if s.regs.f.c = true ∨ s.regs.a.toNat > 0x99 then 0x60 else 0x00) ∧
      t.regs.a = s.regs.a + corr ∧ (t.regs.f.c = true ↔ s.regs.f.c = true ∨ s.regs.a.toNat > 0x99)) ∧
    (s.regs.f.n = true →
      corr = (if s.regs.f.h = true then 0x06 else 0x00) + (if s.regs.f.c = true then 0x60 else 0x00) ∧
      t.regs.a = s.regs.a - corr ∧ t.regs.f.c = s.regs.f.c) ∧
    (t.regs.f.z = true ↔ t.regs.a = 0x00) ∧ t.regs.f.n = s.regs.f.n ∧ t.regs.f.h = false

/-- `DAA` after an addition or a subtraction of two-digit decimal numbers gives the two digits of the decimal result and
its decimal carry or borrow (R261: decimal-adjust A after a BCD addition or subtraction). -/
def Obligations.DecimalArithmetic : Prop :=
  ∀ (x y : Nat) (c : Bool), x < 100 → y < 100 →
    ((daaApply (add8 (bcd x) (bcd y) c).res (add8 (bcd x) (bcd y) c).flags).res = bcd ((x + y + c.toNat) % 100) ∧
      ((daaApply (add8 (bcd x) (bcd y) c).res (add8 (bcd x) (bcd y) c).flags).flags.c = true ↔ x + y + c.toNat > 99)) ∧
    ((daaApply (sub8 (bcd x) (bcd y) c).res (sub8 (bcd x) (bcd y) c).flags).res =
        bcd ((x + 100 - y + 100 - c.toNat) % 100) ∧
      ((daaApply (sub8 (bcd x) (bcd y) c).res (sub8 (bcd x) (bcd y) c).flags).flags.c = true ↔ x < y + c.toNat))

/-- `NOP`, `CPL`, `CCF`, `SCF`, `DI`, `EI`, `HALT`, `STOP` (R260, R262 to R268): what each changes, and nothing else;
Z is kept by the three on flags, and C by `CPL`. -/
def Obligations.ControlInstructions : Prop :=
  ∀ (s : State),
    (∃ t, exec Form.cpl.toInstr s = .next t ∧ OnlyRegs s t ∧
      t.regs = { s.regs with a := t.regs.a, f := { s.regs.f with n := true, h := true } } ∧
      ∀ i, i < 8 → t.regs.a.getLsbD i = !s.regs.a.getLsbD i) ∧
    exec Form.ccf.toInstr s =
      .next (s.setRegs { s.regs with f := { s.regs.f with n := false, h := false, c := !s.regs.f.c } }) ∧
    exec Form.scf.toInstr s =
      .next (s.setRegs { s.regs with f := { s.regs.f with n := false, h := false, c := true } }) ∧
    exec Form.nop.toInstr s = .next s ∧
    exec Form.di.toInstr s = .next { s with ime := false, eiPending := false } ∧
    exec Form.ei.toInstr s = .next { s with eiPending := true } ∧
    exec Form.halt.toInstr s = .next { s with run := .halted } ∧
    exec Form.stop.toInstr s = .next { s with run := .stopped, regs := { s.regs with pc := s.regs.pc + 1 } }

end
end

