-- ==== Sys2Proof/Laws/State.lean ====
section
/-! SUPPORT. What each update of the state leaves alone: one lemma per field per update. -/

namespace Sys2Proof.Machine

@[simp] theorem State.setRegs_regs (s : State) (x : Regs) : (s.setRegs x).regs = x := rfl
@[simp] theorem State.setRegs_ime (s : State) (x : Regs) : (s.setRegs x).ime = s.ime := rfl
@[simp] theorem State.setRegs_eiPending (s : State) (x : Regs) : (s.setRegs x).eiPending = s.eiPending := rfl
@[simp] theorem State.setRegs_run (s : State) (x : Regs) : (s.setRegs x).run = s.run := rfl
@[simp] theorem State.setRegs_clock (s : State) (x : Regs) : (s.setRegs x).clock = s.clock := rfl
@[simp] theorem State.setRegs_slots (s : State) (x : Regs) : (s.setRegs x).slots = s.slots := rfl
@[simp] theorem State.setRegs_mem (s : State) (x : Regs) : (s.setRegs x).mem = s.mem := rfl
@[simp] theorem State.setRegs_irq (s : State) (x : Regs) : (s.setRegs x).irq = s.irq := rfl
@[simp] theorem State.setRegs_timer (s : State) (x : Regs) : (s.setRegs x).timer = s.timer := rfl
@[simp] theorem State.setRegs_serial (s : State) (x : Regs) : (s.setRegs x).serial = s.serial := rfl
@[simp] theorem State.setRegs_video (s : State) (x : Regs) : (s.setRegs x).video = s.video := rfl
@[simp] theorem State.setRegs_frameBuffer (s : State) (x : Regs) : (s.setRegs x).frameBuffer = s.frameBuffer := rfl
@[simp] theorem State.setRegs_input (s : State) (x : Regs) : (s.setRegs x).input = s.input := rfl
@[simp] theorem State.setRegs_cartridge (s : State) (x : Regs) : (s.setRegs x).cartridge = s.cartridge := rfl
@[simp] theorem State.setRegs_params (s : State) (x : Regs) : (s.setRegs x).params = s.params := rfl
@[simp] theorem State.setRegs_events (s : State) (x : Regs) : (s.setRegs x).events = s.events := rfl
@[simp] theorem State.setRegs_draws (s : State) (x : Regs) : (s.setRegs x).draws = s.draws := rfl

@[simp] theorem State.setIme_regs (s : State) (x : Bool) : (s.setIme x).regs = s.regs := rfl
@[simp] theorem State.setIme_ime (s : State) (x : Bool) : (s.setIme x).ime = x := rfl
@[simp] theorem State.setIme_eiPending (s : State) (x : Bool) : (s.setIme x).eiPending = s.eiPending := rfl
@[simp] theorem State.setIme_run (s : State) (x : Bool) : (s.setIme x).run = s.run := rfl
@[simp] theorem State.setIme_clock (s : State) (x : Bool) : (s.setIme x).clock = s.clock := rfl
@[simp] theorem State.setIme_slots (s : State) (x : Bool) : (s.setIme x).slots = s.slots := rfl
@[simp] theorem State.setIme_mem (s : State) (x : Bool) : (s.setIme x).mem = s.mem := rfl
@[simp] theorem State.setIme_irq (s : State) (x : Bool) : (s.setIme x).irq = s.irq := rfl
@[simp] theorem State.setIme_timer (s : State) (x : Bool) : (s.setIme x).timer = s.timer := rfl
@[simp] theorem State.setIme_serial (s : State) (x : Bool) : (s.setIme x).serial = s.serial := rfl
@[simp] theorem State.setIme_video (s : State) (x : Bool) : (s.setIme x).video = s.video := rfl
@[simp] theorem State.setIme_frameBuffer (s : State) (x : Bool) : (s.setIme x).frameBuffer = s.frameBuffer := rfl
@[simp] theorem State.setIme_input (s : State) (x : Bool) : (s.setIme x).input = s.input := rfl
@[simp] theorem State.setIme_cartridge (s : State) (x : Bool) : (s.setIme x).cartridge = s.cartridge := rfl
@[simp] theorem State.setIme_params (s : State) (x : Bool) : (s.setIme x).params = s.params := rfl
@[simp] theorem State.setIme_events (s : State) (x : Bool) : (s.setIme x).events = s.events := rfl
@[simp] theorem State.setIme_draws (s : State) (x : Bool) : (s.setIme x).draws = s.draws := rfl

@[simp] theorem State.setEiPending_regs (s : State) (x : Bool) : (s.setEiPending x).regs = s.regs := rfl
@[simp] theorem State.setEiPending_ime (s : State) (x : Bool) : (s.setEiPending x).ime = s.ime := rfl
@[simp] theorem State.setEiPending_eiPending (s : State) (x : Bool) : (s.setEiPending x).eiPending = x := rfl
@[simp] theorem State.setEiPending_run (s : State) (x : Bool) : (s.setEiPending x).run = s.run := rfl
@[simp] theorem State.setEiPending_clock (s : State) (x : Bool) : (s.setEiPending x).clock = s.clock := rfl
@[simp] theorem State.setEiPending_slots (s : State) (x : Bool) : (s.setEiPending x).slots = s.slots := rfl
@[simp] theorem State.setEiPending_mem (s : State) (x : Bool) : (s.setEiPending x).mem = s.mem := rfl
@[simp] theorem State.setEiPending_irq (s : State) (x : Bool) : (s.setEiPending x).irq = s.irq := rfl
@[simp] theorem State.setEiPending_timer (s : State) (x : Bool) : (s.setEiPending x).timer = s.timer := rfl
@[simp] theorem State.setEiPending_serial (s : State) (x : Bool) : (s.setEiPending x).serial = s.serial := rfl
@[simp] theorem State.setEiPending_video (s : State) (x : Bool) : (s.setEiPending x).video = s.video := rfl
@[simp] theorem State.setEiPending_frameBuffer (s : State) (x : Bool) : (s.setEiPending x).frameBuffer = s.frameBuffer := rfl
@[simp] theorem State.setEiPending_input (s : State) (x : Bool) : (s.setEiPending x).input = s.input := rfl
@[simp] theorem State.setEiPending_cartridge (s : State) (x : Bool) : (s.setEiPending x).cartridge = s.cartridge := rfl
@[simp] theorem State.setEiPending_params (s : State) (x : Bool) : (s.setEiPending x).params = s.params := rfl
@[simp] theorem State.setEiPending_events (s : State) (x : Bool) : (s.setEiPending x).events = s.events := rfl
@[simp] theorem State.setEiPending_draws (s : State) (x : Bool) : (s.setEiPending x).draws = s.draws := rfl

@[simp] theorem State.setRun_regs (s : State) (x : RunState) : (s.setRun x).regs = s.regs := rfl
@[simp] theorem State.setRun_ime (s : State) (x : RunState) : (s.setRun x).ime = s.ime := rfl
@[simp] theorem State.setRun_eiPending (s : State) (x : RunState) : (s.setRun x).eiPending = s.eiPending := rfl
@[simp] theorem State.setRun_run (s : State) (x : RunState) : (s.setRun x).run = x := rfl
@[simp] theorem State.setRun_clock (s : State) (x : RunState) : (s.setRun x).clock = s.clock := rfl
@[simp] theorem State.setRun_slots (s : State) (x : RunState) : (s.setRun x).slots = s.slots := rfl
@[simp] theorem State.setRun_mem (s : State) (x : RunState) : (s.setRun x).mem = s.mem := rfl
@[simp] theorem State.setRun_irq (s : State) (x : RunState) : (s.setRun x).irq = s.irq := rfl
@[simp] theorem State.setRun_timer (s : State) (x : RunState) : (s.setRun x).timer = s.timer := rfl
@[simp] theorem State.setRun_serial (s : State) (x : RunState) : (s.setRun x).serial = s.serial := rfl
@[simp] theorem State.setRun_video (s : State) (x : RunState) : (s.setRun x).video = s.video := rfl
@[simp] theorem State.setRun_frameBuffer (s : State) (x : RunState) : (s.setRun x).frameBuffer = s.frameBuffer := rfl
@[simp] theorem State.setRun_input (s : State) (x : RunState) : (s.setRun x).input = s.input := rfl
@[simp] theorem State.setRun_cartridge (s : State) (x : RunState) : (s.setRun x).cartridge = s.cartridge := rfl
@[simp] theorem State.setRun_params (s : State) (x : RunState) : (s.setRun x).params = s.params := rfl
@[simp] theorem State.setRun_events (s : State) (x : RunState) : (s.setRun x).events = s.events := rfl
@[simp] theorem State.setRun_draws (s : State) (x : RunState) : (s.setRun x).draws = s.draws := rfl

@[simp] theorem State.setClock_regs (s : State) (x : Nat) : (s.setClock x).regs = s.regs := rfl
@[simp] theorem State.setClock_ime (s : State) (x : Nat) : (s.setClock x).ime = s.ime := rfl
@[simp] theorem State.setClock_eiPending (s : State) (x : Nat) : (s.setClock x).eiPending = s.eiPending := rfl
@[simp] theorem State.setClock_run (s : State) (x : Nat) : (s.setClock x).run = s.run := rfl
@[simp] theorem State.setClock_clock (s : State) (x : Nat) : (s.setClock x).clock = x := rfl
@[simp] theorem State.setClock_slots (s : State) (x : Nat) : (s.setClock x).slots = s.slots := rfl
@[simp] theorem State.setClock_mem (s : State) (x : Nat) : (s.setClock x).mem = s.mem := rfl
@[simp] theorem State.setClock_irq (s : State) (x : Nat) : (s.setClock x).irq = s.irq := rfl
@[simp] theorem State.setClock_timer (s : State) (x : Nat) : (s.setClock x).timer = s.timer := rfl
@[simp] theorem State.setClock_serial (s : State) (x : Nat) : (s.setClock x).serial = s.serial := rfl
@[simp] theorem State.setClock_video (s : State) (x : Nat) : (s.setClock x).video = s.video := rfl
@[simp] theorem State.setClock_frameBuffer (s : State) (x : Nat) : (s.setClock x).frameBuffer = s.frameBuffer := rfl
@[simp] theorem State.setClock_input (s : State) (x : Nat) : (s.setClock x).input = s.input := rfl
@[simp] theorem State.setClock_cartridge (s : State) (x : Nat) : (s.setClock x).cartridge = s.cartridge := rfl
@[simp] theorem State.setClock_params (s : State) (x : Nat) : (s.setClock x).params = s.params := rfl
@[simp] theorem State.setClock_events (s : State) (x : Nat) : (s.setClock x).events = s.events := rfl
@[simp] theorem State.setClock_draws (s : State) (x : Nat) : (s.setClock x).draws = s.draws := rfl

@[simp] theorem State.setSlots_regs (s : State) (x : SlotTable) : (s.setSlots x).regs = s.regs := rfl
@[simp] theorem State.setSlots_ime (s : State) (x : SlotTable) : (s.setSlots x).ime = s.ime := rfl
@[simp] theorem State.setSlots_eiPending (s : State) (x : SlotTable) : (s.setSlots x).eiPending = s.eiPending := rfl
@[simp] theorem State.setSlots_run (s : State) (x : SlotTable) : (s.setSlots x).run = s.run := rfl
@[simp] theorem State.setSlots_clock (s : State) (x : SlotTable) : (s.setSlots x).clock = s.clock := rfl
@[simp] theorem State.setSlots_slots (s : State) (x : SlotTable) : (s.setSlots x).slots = x := rfl
@[simp] theorem State.setSlots_mem (s : State) (x : SlotTable) : (s.setSlots x).mem = s.mem := rfl
@[simp] theorem State.setSlots_irq (s : State) (x : SlotTable) : (s.setSlots x).irq = s.irq := rfl
@[simp] theorem State.setSlots_timer (s : State) (x : SlotTable) : (s.setSlots x).timer = s.timer := rfl
@[simp] theorem State.setSlots_serial (s : State) (x : SlotTable) : (s.setSlots x).serial = s.serial := rfl
@[simp] theorem State.setSlots_video (s : State) (x : SlotTable) : (s.setSlots x).video = s.video := rfl
@[simp] theorem State.setSlots_frameBuffer (s : State) (x : SlotTable) : (s.setSlots x).frameBuffer = s.frameBuffer := rfl
@[simp] theorem State.setSlots_input (s : State) (x : SlotTable) : (s.setSlots x).input = s.input := rfl
@[simp] theorem State.setSlots_cartridge (s : State) (x : SlotTable) : (s.setSlots x).cartridge = s.cartridge := rfl
@[simp] theorem State.setSlots_params (s : State) (x : SlotTable) : (s.setSlots x).params = s.params := rfl
@[simp] theorem State.setSlots_events (s : State) (x : SlotTable) : (s.setSlots x).events = s.events := rfl
@[simp] theorem State.setSlots_draws (s : State) (x : SlotTable) : (s.setSlots x).draws = s.draws := rfl

@[simp] theorem State.setMem_regs (s : State) (x : Memory) : (s.setMem x).regs = s.regs := rfl
@[simp] theorem State.setMem_ime (s : State) (x : Memory) : (s.setMem x).ime = s.ime := rfl
@[simp] theorem State.setMem_eiPending (s : State) (x : Memory) : (s.setMem x).eiPending = s.eiPending := rfl
@[simp] theorem State.setMem_run (s : State) (x : Memory) : (s.setMem x).run = s.run := rfl
@[simp] theorem State.setMem_clock (s : State) (x : Memory) : (s.setMem x).clock = s.clock := rfl
@[simp] theorem State.setMem_slots (s : State) (x : Memory) : (s.setMem x).slots = s.slots := rfl
@[simp] theorem State.setMem_mem (s : State) (x : Memory) : (s.setMem x).mem = x := rfl
@[simp] theorem State.setMem_irq (s : State) (x : Memory) : (s.setMem x).irq = s.irq := rfl
@[simp] theorem State.setMem_timer (s : State) (x : Memory) : (s.setMem x).timer = s.timer := rfl
@[simp] theorem State.setMem_serial (s : State) (x : Memory) : (s.setMem x).serial = s.serial := rfl
@[simp] theorem State.setMem_video (s : State) (x : Memory) : (s.setMem x).video = s.video := rfl
@[simp] theorem State.setMem_frameBuffer (s : State) (x : Memory) : (s.setMem x).frameBuffer = s.frameBuffer := rfl
@[simp] theorem State.setMem_input (s : State) (x : Memory) : (s.setMem x).input = s.input := rfl
@[simp] theorem State.setMem_cartridge (s : State) (x : Memory) : (s.setMem x).cartridge = s.cartridge := rfl
@[simp] theorem State.setMem_params (s : State) (x : Memory) : (s.setMem x).params = s.params := rfl
@[simp] theorem State.setMem_events (s : State) (x : Memory) : (s.setMem x).events = s.events := rfl
@[simp] theorem State.setMem_draws (s : State) (x : Memory) : (s.setMem x).draws = s.draws := rfl

@[simp] theorem State.setIrq_regs (s : State) (x : Irq) : (s.setIrq x).regs = s.regs := rfl
@[simp] theorem State.setIrq_ime (s : State) (x : Irq) : (s.setIrq x).ime = s.ime := rfl
@[simp] theorem State.setIrq_eiPending (s : State) (x : Irq) : (s.setIrq x).eiPending = s.eiPending := rfl
@[simp] theorem State.setIrq_run (s : State) (x : Irq) : (s.setIrq x).run = s.run := rfl
@[simp] theorem State.setIrq_clock (s : State) (x : Irq) : (s.setIrq x).clock = s.clock := rfl
@[simp] theorem State.setIrq_slots (s : State) (x : Irq) : (s.setIrq x).slots = s.slots := rfl
@[simp] theorem State.setIrq_mem (s : State) (x : Irq) : (s.setIrq x).mem = s.mem := rfl
@[simp] theorem State.setIrq_irq (s : State) (x : Irq) : (s.setIrq x).irq = x := rfl
@[simp] theorem State.setIrq_timer (s : State) (x : Irq) : (s.setIrq x).timer = s.timer := rfl
@[simp] theorem State.setIrq_serial (s : State) (x : Irq) : (s.setIrq x).serial = s.serial := rfl
@[simp] theorem State.setIrq_video (s : State) (x : Irq) : (s.setIrq x).video = s.video := rfl
@[simp] theorem State.setIrq_frameBuffer (s : State) (x : Irq) : (s.setIrq x).frameBuffer = s.frameBuffer := rfl
@[simp] theorem State.setIrq_input (s : State) (x : Irq) : (s.setIrq x).input = s.input := rfl
@[simp] theorem State.setIrq_cartridge (s : State) (x : Irq) : (s.setIrq x).cartridge = s.cartridge := rfl
@[simp] theorem State.setIrq_params (s : State) (x : Irq) : (s.setIrq x).params = s.params := rfl
@[simp] theorem State.setIrq_events (s : State) (x : Irq) : (s.setIrq x).events = s.events := rfl
@[simp] theorem State.setIrq_draws (s : State) (x : Irq) : (s.setIrq x).draws = s.draws := rfl

@[simp] theorem State.setTimer_regs (s : State) (x : Timer) : (s.setTimer x).regs = s.regs := rfl
@[simp] theorem State.setTimer_ime (s : State) (x : Timer) : (s.setTimer x).ime = s.ime := rfl
@[simp] theorem State.setTimer_eiPending (s : State) (x : Timer) : (s.setTimer x).eiPending = s.eiPending := rfl
@[simp] theorem State.setTimer_run (s : State) (x : Timer) : (s.setTimer x).run = s.run := rfl
@[simp] theorem State.setTimer_clock (s : State) (x : Timer) : (s.setTimer x).clock = s.clock := rfl
@[simp] theorem State.setTimer_slots (s : State) (x : Timer) : (s.setTimer x).slots = s.slots := rfl
@[simp] theorem State.setTimer_mem (s : State) (x : Timer) : (s.setTimer x).mem = s.mem := rfl
@[simp] theorem State.setTimer_irq (s : State) (x : Timer) : (s.setTimer x).irq = s.irq := rfl
@[simp] theorem State.setTimer_timer (s : State) (x : Timer) : (s.setTimer x).timer = x := rfl
@[simp] theorem State.setTimer_serial (s : State) (x : Timer) : (s.setTimer x).serial = s.serial := rfl
@[simp] theorem State.setTimer_video (s : State) (x : Timer) : (s.setTimer x).video = s.video := rfl
@[simp] theorem State.setTimer_frameBuffer (s : State) (x : Timer) : (s.setTimer x).frameBuffer = s.frameBuffer := rfl
@[simp] theorem State.setTimer_input (s : State) (x : Timer) : (s.setTimer x).input = s.input := rfl
@[simp] theorem State.setTimer_cartridge (s : State) (x : Timer) : (s.setTimer x).cartridge = s.cartridge := rfl
@[simp] theorem State.setTimer_params (s : State) (x : Timer) : (s.setTimer x).params = s.params := rfl
@[simp] theorem State.setTimer_events (s : State) (x : Timer) : (s.setTimer x).events = s.events := rfl
@[simp] theorem State.setTimer_draws (s : State) (x : Timer) : (s.setTimer x).draws = s.draws := rfl

@[simp] theorem State.setSerial_regs (s : State) (x : Serial) : (s.setSerial x).regs = s.regs := rfl
@[simp] theorem State.setSerial_ime (s : State) (x : Serial) : (s.setSerial x).ime = s.ime := rfl
@[simp] theorem State.setSerial_eiPending (s : State) (x : Serial) : (s.setSerial x).eiPending = s.eiPending := rfl
@[simp] theorem State.setSerial_run (s : State) (x : Serial) : (s.setSerial x).run = s.run := rfl
@[simp] theorem State.setSerial_clock (s : State) (x : Serial) : (s.setSerial x).clock = s.clock := rfl
@[simp] theorem State.setSerial_slots (s : State) (x : Serial) : (s.setSerial x).slots = s.slots := rfl
@[simp] theorem State.setSerial_mem (s : State) (x : Serial) : (s.setSerial x).mem = s.mem := rfl
@[simp] theorem State.setSerial_irq (s : State) (x : Serial) : (s.setSerial x).irq = s.irq := rfl
@[simp] theorem State.setSerial_timer (s : State) (x : Serial) : (s.setSerial x).timer = s.timer := rfl
@[simp] theorem State.setSerial_serial (s : State) (x : Serial) : (s.setSerial x).serial = x := rfl
@[simp] theorem State.setSerial_video (s : State) (x : Serial) : (s.setSerial x).video = s.video := rfl
@[simp] theorem State.setSerial_frameBuffer (s : State) (x : Serial) : (s.setSerial x).frameBuffer = s.frameBuffer := rfl
@[simp] theorem State.setSerial_input (s : State) (x : Serial) : (s.setSerial x).input = s.input := rfl
@[simp] theorem State.setSerial_cartridge (s : State) (x : Serial) : (s.setSerial x).cartridge = s.cartridge := rfl
@[simp] theorem State.setSerial_params (s : State) (x : Serial) : (s.setSerial x).params = s.params := rfl
@[simp] theorem State.setSerial_events (s : State) (x : Serial) : (s.setSerial x).events = s.events := rfl
@[simp] theorem State.setSerial_draws (s : State) (x : Serial) : (s.setSerial x).draws = s.draws := rfl

@[simp] theorem State.setVideo_regs (s : State) (x : Video) : (s.setVideo x).regs = s.regs := rfl
@[simp] theorem State.setVideo_ime (s : State) (x : Video) : (s.setVideo x).ime = s.ime := rfl
@[simp] theorem State.setVideo_eiPending (s : State) (x : Video) : (s.setVideo x).eiPending = s.eiPending := rfl
@[simp] theorem State.setVideo_run (s : State) (x : Video) : (s.setVideo x).run = s.run := rfl
@[simp] theorem State.setVideo_clock (s : State) (x : Video) : (s.setVideo x).clock = s.clock := rfl
@[simp] theorem State.setVideo_slots (s : State) (x : Video) : (s.setVideo x).slots = s.slots := rfl
@[simp] theorem State.setVideo_mem (s : State) (x : Video) : (s.setVideo x).mem = s.mem := rfl
@[simp] theorem State.setVideo_irq (s : State) (x : Video) : (s.setVideo x).irq = s.irq := rfl
@[simp] theorem State.setVideo_timer (s : State) (x : Video) : (s.setVideo x).timer = s.timer := rfl
@[simp] theorem State.setVideo_serial (s : State) (x : Video) : (s.setVideo x).serial = s.serial := rfl
@[simp] theorem State.setVideo_video (s : State) (x : Video) : (s.setVideo x).video = x := rfl
@[simp] theorem State.setVideo_frameBuffer (s : State) (x : Video) : (s.setVideo x).frameBuffer = s.frameBuffer := rfl
@[simp] theorem State.setVideo_input (s : State) (x : Video) : (s.setVideo x).input = s.input := rfl
@[simp] theorem State.setVideo_cartridge (s : State) (x : Video) : (s.setVideo x).cartridge = s.cartridge := rfl
@[simp] theorem State.setVideo_params (s : State) (x : Video) : (s.setVideo x).params = s.params := rfl
@[simp] theorem State.setVideo_events (s : State) (x : Video) : (s.setVideo x).events = s.events := rfl
@[simp] theorem State.setVideo_draws (s : State) (x : Video) : (s.setVideo x).draws = s.draws := rfl

@[simp] theorem State.setFrameBuffer_regs (s : State) (x : Memory) : (s.setFrameBuffer x).regs = s.regs := rfl
@[simp] theorem State.setFrameBuffer_ime (s : State) (x : Memory) : (s.setFrameBuffer x).ime = s.ime := rfl
@[simp] theorem State.setFrameBuffer_eiPending (s : State) (x : Memory) : (s.setFrameBuffer x).eiPending = s.eiPending := rfl
@[simp] theorem State.setFrameBuffer_run (s : State) (x : Memory) : (s.setFrameBuffer x).run = s.run := rfl
@[simp] theorem State.setFrameBuffer_clock (s : State) (x : Memory) : (s.setFrameBuffer x).clock = s.clock := rfl
@[simp] theorem State.setFrameBuffer_slots (s : State) (x : Memory) : (s.setFrameBuffer x).slots = s.slots := rfl
@[simp] theorem State.setFrameBuffer_mem (s : State) (x : Memory) : (s.setFrameBuffer x).mem = s.mem := rfl
@[simp] theorem State.setFrameBuffer_irq (s : State) (x : Memory) : (s.setFrameBuffer x).irq = s.irq := rfl
@[simp] theorem State.setFrameBuffer_timer (s : State) (x : Memory) : (s.setFrameBuffer x).timer = s.timer := rfl
@[simp] theorem State.setFrameBuffer_serial (s : State) (x : Memory) : (s.setFrameBuffer x).serial = s.serial := rfl
@[simp] theorem State.setFrameBuffer_video (s : State) (x : Memory) : (s.setFrameBuffer x).video = s.video := rfl
@[simp] theorem State.setFrameBuffer_frameBuffer (s : State) (x : Memory) : (s.setFrameBuffer x).frameBuffer = x := rfl
@[simp] theorem State.setFrameBuffer_input (s : State) (x : Memory) : (s.setFrameBuffer x).input = s.input := rfl
@[simp] theorem State.setFrameBuffer_cartridge (s : State) (x : Memory) : (s.setFrameBuffer x).cartridge = s.cartridge := rfl
@[simp] theorem State.setFrameBuffer_params (s : State) (x : Memory) : (s.setFrameBuffer x).params = s.params := rfl
@[simp] theorem State.setFrameBuffer_events (s : State) (x : Memory) : (s.setFrameBuffer x).events = s.events := rfl
@[simp] theorem State.setFrameBuffer_draws (s : State) (x : Memory) : (s.setFrameBuffer x).draws = s.draws := rfl

@[simp] theorem State.setInput_regs (s : State) (x : Input) : (s.setInput x).regs = s.regs := rfl
@[simp] theorem State.setInput_ime (s : State) (x : Input) : (s.setInput x).ime = s.ime := rfl
@[simp] theorem State.setInput_eiPending (s : State) (x : Input) : (s.setInput x).eiPending = s.eiPending := rfl
@[simp] theorem State.setInput_run (s : State) (x : Input) : (s.setInput x).run = s.run := rfl
@[simp] theorem State.setInput_clock (s : State) (x : Input) : (s.setInput x).clock = s.clock := rfl
@[simp] theorem State.setInput_slots (s : State) (x : Input) : (s.setInput x).slots = s.slots := rfl
@[simp] theorem State.setInput_mem (s : State) (x : Input) : (s.setInput x).mem = s.mem := rfl
@[simp] theorem State.setInput_irq (s : State) (x : Input) : (s.setInput x).irq = s.irq := rfl
@[simp] theorem State.setInput_timer (s : State) (x : Input) : (s.setInput x).timer = s.timer := rfl
@[simp] theorem State.setInput_serial (s : State) (x : Input) : (s.setInput x).serial = s.serial := rfl
@[simp] theorem State.setInput_video (s : State) (x : Input) : (s.setInput x).video = s.video := rfl
@[simp] theorem State.setInput_frameBuffer (s : State) (x : Input) : (s.setInput x).frameBuffer = s.frameBuffer := rfl
@[simp] theorem State.setInput_input (s : State) (x : Input) : (s.setInput x).input = x := rfl
@[simp] theorem State.setInput_cartridge (s : State) (x : Input) : (s.setInput x).cartridge = s.cartridge := rfl
@[simp] theorem State.setInput_params (s : State) (x : Input) : (s.setInput x).params = s.params := rfl
@[simp] theorem State.setInput_events (s : State) (x : Input) : (s.setInput x).events = s.events := rfl
@[simp] theorem State.setInput_draws (s : State) (x : Input) : (s.setInput x).draws = s.draws := rfl

@[simp] theorem State.setCartridge_regs (s : State) (x : CartLink) : (s.setCartridge x).regs = s.regs := rfl
@[simp] theorem State.setCartridge_ime (s : State) (x : CartLink) : (s.setCartridge x).ime = s.ime := rfl
@[simp] theorem State.setCartridge_eiPending (s : State) (x : CartLink) : (s.setCartridge x).eiPending = s.eiPending := rfl
@[simp] theorem State.setCartridge_run (s : State) (x : CartLink) : (s.setCartridge x).run = s.run := rfl
@[simp] theorem State.setCartridge_clock (s : State) (x : CartLink) : (s.setCartridge x).clock = s.clock := rfl
@[simp] theorem State.setCartridge_slots (s : State) (x : CartLink) : (s.setCartridge x).slots = s.slots := rfl
@[simp] theorem State.setCartridge_mem (s : State) (x : CartLink) : (s.setCartridge x).mem = s.mem := rfl
@[simp] theorem State.setCartridge_irq (s : State) (x : CartLink) : (s.setCartridge x).irq = s.irq := rfl
@[simp] theorem State.setCartridge_timer (s : State) (x : CartLink) : (s.setCartridge x).timer = s.timer := rfl
@[simp] theorem State.setCartridge_serial (s : State) (x : CartLink) : (s.setCartridge x).serial = s.serial := rfl
@[simp] theorem State.setCartridge_video (s : State) (x : CartLink) : (s.setCartridge x).video = s.video := rfl
@[simp] theorem State.setCartridge_frameBuffer (s : State) (x : CartLink) : (s.setCartridge x).frameBuffer = s.frameBuffer := rfl
@[simp] theorem State.setCartridge_input (s : State) (x : CartLink) : (s.setCartridge x).input = s.input := rfl
@[simp] theorem State.setCartridge_cartridge (s : State) (x : CartLink) : (s.setCartridge x).cartridge = x := rfl
@[simp] theorem State.setCartridge_params (s : State) (x : CartLink) : (s.setCartridge x).params = s.params := rfl
@[simp] theorem State.setCartridge_events (s : State) (x : CartLink) : (s.setCartridge x).events = s.events := rfl
@[simp] theorem State.setCartridge_draws (s : State) (x : CartLink) : (s.setCartridge x).draws = s.draws := rfl

@[simp] theorem State.setEvents_regs (s : State) (x : List HostEvent) : (s.setEvents x).regs = s.regs := rfl
@[simp] theorem State.setEvents_ime (s : State) (x : List HostEvent) : (s.setEvents x).ime = s.ime := rfl
@[simp] theorem State.setEvents_eiPending (s : State) (x : List HostEvent) : (s.setEvents x).eiPending = s.eiPending := rfl
@[simp] theorem State.setEvents_run (s : State) (x : List HostEvent) : (s.setEvents x).run = s.run := rfl
@[simp] theorem State.setEvents_clock (s : State) (x : List HostEvent) : (s.setEvents x).clock = s.clock := rfl
@[simp] theorem State.setEvents_slots (s : State) (x : List HostEvent) : (s.setEvents x).slots = s.slots := rfl
@[simp] theorem State.setEvents_mem (s : State) (x : List HostEvent) : (s.setEvents x).mem = s.mem := rfl
@[simp] theorem State.setEvents_irq (s : State) (x : List HostEvent) : (s.setEvents x).irq = s.irq := rfl
@[simp] theorem State.setEvents_timer (s : State) (x : List HostEvent) : (s.setEvents x).timer = s.timer := rfl
@[simp] theorem State.setEvents_serial (s : State) (x : List HostEvent) : (s.setEvents x).serial = s.serial := rfl
@[simp] theorem State.setEvents_video (s : State) (x : List HostEvent) : (s.setEvents x).video = s.video := rfl
@[simp] theorem State.setEvents_frameBuffer (s : State) (x : List HostEvent) : (s.setEvents x).frameBuffer = s.frameBuffer := rfl
@[simp] theorem State.setEvents_input (s : State) (x : List HostEvent) : (s.setEvents x).input = s.input := rfl
@[simp] theorem State.setEvents_cartridge (s : State) (x : List HostEvent) : (s.setEvents x).cartridge = s.cartridge := rfl
@[simp] theorem State.setEvents_params (s : State) (x : List HostEvent) : (s.setEvents x).params = s.params := rfl
@[simp] theorem State.setEvents_events (s : State) (x : List HostEvent) : (s.setEvents x).events = x := rfl
@[simp] theorem State.setEvents_draws (s : State) (x : List HostEvent) : (s.setEvents x).draws = s.draws := rfl

@[simp] theorem State.setDraws_regs (s : State) (x : Nat) : (s.setDraws x).regs = s.regs := rfl
@[simp] theorem State.setDraws_ime (s : State) (x : Nat) : (s.setDraws x).ime = s.ime := rfl
@[simp] theorem State.setDraws_eiPending (s : State) (x : Nat) : (s.setDraws x).eiPending = s.eiPending := rfl
@[simp] theorem State.setDraws_run (s : State) (x : Nat) : (s.setDraws x).run = s.run := rfl
@[simp] theorem State.setDraws_clock (s : State) (x : Nat) : (s.setDraws x).clock = s.clock := rfl
@[simp] theorem State.setDraws_slots (s : State) (x : Nat) : (s.setDraws x).slots = s.slots := rfl
@[simp] theorem State.setDraws_mem (s : State) (x : Nat) : (s.setDraws x).mem = s.mem := rfl
@[simp] theorem State.setDraws_irq (s : State) (x : Nat) : (s.setDraws x).irq = s.irq := rfl
@[simp] theorem State.setDraws_timer (s : State) (x : Nat) : (s.setDraws x).timer = s.timer := rfl
@[simp] theorem State.setDraws_serial (s : State) (x : Nat) : (s.setDraws x).serial = s.serial := rfl
@[simp] theorem State.setDraws_video (s : State) (x : Nat) : (s.setDraws x).video = s.video := rfl
@[simp] theorem State.setDraws_frameBuffer (s : State) (x : Nat) : (s.setDraws x).frameBuffer = s.frameBuffer := rfl
@[simp] theorem State.setDraws_input (s : State) (x : Nat) : (s.setDraws x).input = s.input := rfl
@[simp] theorem State.setDraws_cartridge (s : State) (x : Nat) : (s.setDraws x).cartridge = s.cartridge := rfl
@[simp] theorem State.setDraws_params (s : State) (x : Nat) : (s.setDraws x).params = s.params := rfl
@[simp] theorem State.setDraws_events (s : State) (x : Nat) : (s.setDraws x).events = s.events := rfl
@[simp] theorem State.setDraws_draws (s : State) (x : Nat) : (s.setDraws x).draws = x := rfl

@[simp] theorem State.setParams_regs (s : State) (x : Params) : (s.setParams x).regs = s.regs := rfl
@[simp] theorem State.setParams_ime (s : State) (x : Params) : (s.setParams x).ime = s.ime := rfl
@[simp] theorem State.setParams_eiPending (s : State) (x : Params) : (s.setParams x).eiPending = s.eiPending := rfl
@[simp] theorem State.setParams_run (s : State) (x : Params) : (s.setParams x).run = s.run := rfl
@[simp] theorem State.setParams_clock (s : State) (x : Params) : (s.setParams x).clock = s.clock := rfl
@[simp] theorem State.setParams_slots (s : State) (x : Params) : (s.setParams x).slots = s.slots := rfl
@[simp] theorem State.setParams_mem (s : State) (x : Params) : (s.setParams x).mem = s.mem := rfl
@[simp] theorem State.setParams_irq (s : State) (x : Params) : (s.setParams x).irq = s.irq := rfl
@[simp] theorem State.setParams_timer (s : State) (x : Params) : (s.setParams x).timer = s.timer := rfl
@[simp] theorem State.setParams_serial (s : State) (x : Params) : (s.setParams x).serial = s.serial := rfl
@[simp] theorem State.setParams_video (s : State) (x : Params) : (s.setParams x).video = s.video := rfl
@[simp] theorem State.setParams_frameBuffer (s : State) (x : Params) : (s.setParams x).frameBuffer = s.frameBuffer := rfl
@[simp] theorem State.setParams_input (s : State) (x : Params) : (s.setParams x).input = s.input := rfl
@[simp] theorem State.setParams_cartridge (s : State) (x : Params) : (s.setParams x).cartridge = s.cartridge := rfl
@[simp] theorem State.setParams_params (s : State) (x : Params) : (s.setParams x).params = x := rfl
@[simp] theorem State.setParams_events (s : State) (x : Params) : (s.setParams x).events = s.events := rfl
@[simp] theorem State.setParams_draws (s : State) (x : Params) : (s.setParams x).draws = s.draws := rfl

@[simp] theorem State.setA_regs (s : State) (v : Byte) : (s.setA v).regs = { s.regs with a := v } := rfl
@[simp] theorem State.setA_ime (s : State) (v : Byte) : (s.setA v).ime = s.ime := rfl
@[simp] theorem State.setA_eiPending (s : State) (v : Byte) : (s.setA v).eiPending = s.eiPending := rfl
@[simp] theorem State.setA_run (s : State) (v : Byte) : (s.setA v).run = s.run := rfl
@[simp] theorem State.setA_clock (s : State) (v : Byte) : (s.setA v).clock = s.clock := rfl
@[simp] theorem State.setA_slots (s : State) (v : Byte) : (s.setA v).slots = s.slots := rfl
@[simp] theorem State.setA_mem (s : State) (v : Byte) : (s.setA v).mem = s.mem := rfl
@[simp] theorem State.setA_irq (s : State) (v : Byte) : (s.setA v).irq = s.irq := rfl
@[simp] theorem State.setA_timer (s : State) (v : Byte) : (s.setA v).timer = s.timer := rfl
@[simp] theorem State.setA_serial (s : State) (v : Byte) : (s.setA v).serial = s.serial := rfl
@[simp] theorem State.setA_video (s : State) (v : Byte) : (s.setA v).video = s.video := rfl
@[simp] theorem State.setA_frameBuffer (s : State) (v : Byte) : (s.setA v).frameBuffer = s.frameBuffer := rfl
@[simp] theorem State.setA_input (s : State) (v : Byte) : (s.setA v).input = s.input := rfl
@[simp] theorem State.setA_cartridge (s : State) (v : Byte) : (s.setA v).cartridge = s.cartridge := rfl
@[simp] theorem State.setA_params (s : State) (v : Byte) : (s.setA v).params = s.params := rfl
@[simp] theorem State.setA_events (s : State) (v : Byte) : (s.setA v).events = s.events := rfl
@[simp] theorem State.setA_draws (s : State) (v : Byte) : (s.setA v).draws = s.draws := rfl

@[simp] theorem State.setFlags_regs (s : State) (f : Flags) : (s.setFlags f).regs = { s.regs with f := f } := rfl
@[simp] theorem State.setFlags_ime (s : State) (f : Flags) : (s.setFlags f).ime = s.ime := rfl
@[simp] theorem State.setFlags_eiPending (s : State) (f : Flags) : (s.setFlags f).eiPending = s.eiPending := rfl
@[simp] theorem State.setFlags_run (s : State) (f : Flags) : (s.setFlags f).run = s.run := rfl
@[simp] theorem State.setFlags_clock (s : State) (f : Flags) : (s.setFlags f).clock = s.clock := rfl
@[simp] theorem State.setFlags_slots (s : State) (f : Flags) : (s.setFlags f).slots = s.slots := rfl
@[simp] theorem State.setFlags_mem (s : State) (f : Flags) : (s.setFlags f).mem = s.mem := rfl
@[simp] theorem State.setFlags_irq (s : State) (f : Flags) : (s.setFlags f).irq = s.irq := rfl
@[simp] theorem State.setFlags_timer (s : State) (f : Flags) : (s.setFlags f).timer = s.timer := rfl
@[simp] theorem State.setFlags_serial (s : State) (f : Flags) : (s.setFlags f).serial = s.serial := rfl
@[simp] theorem State.setFlags_video (s : State) (f : Flags) : (s.setFlags f).video = s.video := rfl
@[simp] theorem State.setFlags_frameBuffer (s : State) (f : Flags) : (s.setFlags f).frameBuffer = s.frameBuffer := rfl
@[simp] theorem State.setFlags_input (s : State) (f : Flags) : (s.setFlags f).input = s.input := rfl
@[simp] theorem State.setFlags_cartridge (s : State) (f : Flags) : (s.setFlags f).cartridge = s.cartridge := rfl
@[simp] theorem State.setFlags_params (s : State) (f : Flags) : (s.setFlags f).params = s.params := rfl
@[simp] theorem State.setFlags_events (s : State) (f : Flags) : (s.setFlags f).events = s.events := rfl
@[simp] theorem State.setFlags_draws (s : State) (f : Flags) : (s.setFlags f).draws = s.draws := rfl

@[simp] theorem State.setPc_regs (s : State) (v : Word) : (s.setPc v).regs = { s.regs with pc := v } := rfl
@[simp] theorem State.setPc_ime (s : State) (v : Word) : (s.setPc v).ime = s.ime := rfl
@[simp] theorem State.setPc_eiPending (s : State) (v : Word) : (s.setPc v).eiPending = s.eiPending := rfl
@[simp] theorem State.setPc_run (s : State) (v : Word) : (s.setPc v).run = s.run := rfl
@[simp] theorem State.setPc_clock (s : State) (v : Word) : (s.setPc v).clock = s.clock := rfl
@[simp] theorem State.setPc_slots (s : State) (v : Word) : (s.setPc v).slots = s.slots := rfl
@[simp] theorem State.setPc_mem (s : State) (v : Word) : (s.setPc v).mem = s.mem := rfl
@[simp] theorem State.setPc_irq (s : State) (v : Word) : (s.setPc v).irq = s.irq := rfl
@[simp] theorem State.setPc_timer (s : State) (v : Word) : (s.setPc v).timer = s.timer := rfl
@[simp] theorem State.setPc_serial (s : State) (v : Word) : (s.setPc v).serial = s.serial := rfl
@[simp] theorem State.setPc_video (s : State) (v : Word) : (s.setPc v).video = s.video := rfl
@[simp] theorem State.setPc_frameBuffer (s : State) (v : Word) : (s.setPc v).frameBuffer = s.frameBuffer := rfl
@[simp] theorem State.setPc_input (s : State) (v : Word) : (s.setPc v).input = s.input := rfl
@[simp] theorem State.setPc_cartridge (s : State) (v : Word) : (s.setPc v).cartridge = s.cartridge := rfl
@[simp] theorem State.setPc_params (s : State) (v : Word) : (s.setPc v).params = s.params := rfl
@[simp] theorem State.setPc_events (s : State) (v : Word) : (s.setPc v).events = s.events := rfl
@[simp] theorem State.setPc_draws (s : State) (v : Word) : (s.setPc v).draws = s.draws := rfl

@[simp] theorem State.setSp_regs (s : State) (v : Word) : (s.setSp v).regs = { s.regs with sp := v } := rfl
@[simp] theorem State.setSp_ime (s : State) (v : Word) : (s.setSp v).ime = s.ime := rfl
@[simp] theorem State.setSp_eiPending (s : State) (v : Word) : (s.setSp v).eiPending = s.eiPending := rfl
@[simp] theorem State.setSp_run (s : State) (v : Word) : (s.setSp v).run = s.run := rfl
@[simp] theorem State.setSp_clock (s : State) (v : Word) : (s.setSp v).clock = s.clock := rfl
@[simp] theorem State.setSp_slots (s : State) (v : Word) : (s.setSp v).slots = s.slots := rfl
@[simp] theorem State.setSp_mem (s : State) (v : Word) : (s.setSp v).mem = s.mem := rfl
@[simp] theorem State.setSp_irq (s : State) (v : Word) : (s.setSp v).irq = s.irq := rfl
@[simp] theorem State.setSp_timer (s : State) (v : Word) : (s.setSp v).timer = s.timer := rfl
@[simp] theorem State.setSp_serial (s : State) (v : Word) : (s.setSp v).serial = s.serial := rfl
@[simp] theorem State.setSp_video (s : State) (v : Word) : (s.setSp v).video = s.video := rfl
@[simp] theorem State.setSp_frameBuffer (s : State) (v : Word) : (s.setSp v).frameBuffer = s.frameBuffer := rfl
@[simp] theorem State.setSp_input (s : State) (v : Word) : (s.setSp v).input = s.input := rfl
@[simp] theorem State.setSp_cartridge (s : State) (v : Word) : (s.setSp v).cartridge = s.cartridge := rfl
@[simp] theorem State.setSp_params (s : State) (v : Word) : (s.setSp v).params = s.params := rfl
@[simp] theorem State.setSp_events (s : State) (v : Word) : (s.setSp v).events = s.events := rfl
@[simp] theorem State.setSp_draws (s : State) (v : Word) : (s.setSp v).draws = s.draws := rfl

@[simp] theorem State.setReg8_regs (s : State) (r : Reg8) (v : Byte) : (s.setReg8 r v).regs = s.regs.set8 r v := rfl
@[simp] theorem State.setReg8_ime (s : State) (r : Reg8) (v : Byte) : (s.setReg8 r v).ime = s.ime := rfl
@[simp] theorem State.setReg8_eiPending (s : State) (r : Reg8) (v : Byte) : (s.setReg8 r v).eiPending = s.eiPending := rfl
@[simp] theorem State.setReg8_run (s : State) (r : Reg8) (v : Byte) : (s.setReg8 r v).run = s.run := rfl
@[simp] theorem State.setReg8_clock (s : State) (r : Reg8) (v : Byte) : (s.setReg8 r v).clock = s.clock := rfl
@[simp] theorem State.setReg8_slots (s : State) (r : Reg8) (v : Byte) : (s.setReg8 r v).slots = s.slots := rfl
@[simp] theorem State.setReg8_mem (s : State) (r : Reg8) (v : Byte) : (s.setReg8 r v).mem = s.mem := rfl
@[simp] theorem State.setReg8_irq (s : State) (r : Reg8) (v : Byte) : (s.setReg8 r v).irq = s.irq := rfl
@[simp] theorem State.setReg8_timer (s : State) (r : Reg8) (v : Byte) : (s.setReg8 r v).timer = s.timer := rfl
@[simp] theorem State.setReg8_serial (s : State) (r : Reg8) (v : Byte) : (s.setReg8 r v).serial = s.serial := rfl
@[simp] theorem State.setReg8_video (s : State) (r : Reg8) (v : Byte) : (s.setReg8 r v).video = s.video := rfl
@[simp] theorem State.setReg8_frameBuffer (s : State) (r : Reg8) (v : Byte) : (s.setReg8 r v).frameBuffer = s.frameBuffer := rfl
@[simp] theorem State.setReg8_input (s : State) (r : Reg8) (v : Byte) : (s.setReg8 r v).input = s.input := rfl
@[simp] theorem State.setReg8_cartridge (s : State) (r : Reg8) (v : Byte) : (s.setReg8 r v).cartridge = s.cartridge := rfl
@[simp] theorem State.setReg8_params (s : State) (r : Reg8) (v : Byte) : (s.setReg8 r v).params = s.params := rfl
@[simp] theorem State.setReg8_events (s : State) (r : Reg8) (v : Byte) : (s.setReg8 r v).events = s.events := rfl
@[simp] theorem State.setReg8_draws (s : State) (r : Reg8) (v : Byte) : (s.setReg8 r v).draws = s.draws := rfl

@[simp] theorem State.setPair_regs (s : State) (p : Pair) (v : Word) : (s.setPair p v).regs = s.regs.setPair p v := rfl
@[simp] theorem State.setPair_ime (s : State) (p : Pair) (v : Word) : (s.setPair p v).ime = s.ime := rfl
@[simp] theorem State.setPair_eiPending (s : State) (p : Pair) (v : Word) : (s.setPair p v).eiPending = s.eiPending := rfl
@[simp] theorem State.setPair_run (s : State) (p : Pair) (v : Word) : (s.setPair p v).run = s.run := rfl
@[simp] theorem State.setPair_clock (s : State) (p : Pair) (v : Word) : (s.setPair p v).clock = s.clock := rfl
@[simp] theorem State.setPair_slots (s : State) (p : Pair) (v : Word) : (s.setPair p v).slots = s.slots := rfl
@[simp] theorem State.setPair_mem (s : State) (p : Pair) (v : Word) : (s.setPair p v).mem = s.mem := rfl
@[simp] theorem State.setPair_irq (s : State) (p : Pair) (v : Word) : (s.setPair p v).irq = s.irq := rfl
@[simp] theorem State.setPair_timer (s : State) (p : Pair) (v : Word) : (s.setPair p v).timer = s.timer := rfl
@[simp] theorem State.setPair_serial (s : State) (p : Pair) (v : Word) : (s.setPair p v).serial = s.serial := rfl
@[simp] theorem State.setPair_video (s : State) (p : Pair) (v : Word) : (s.setPair p v).video = s.video := rfl
@[simp] theorem State.setPair_frameBuffer (s : State) (p : Pair) (v : Word) : (s.setPair p v).frameBuffer = s.frameBuffer := rfl
@[simp] theorem State.setPair_input (s : State) (p : Pair) (v : Word) : (s.setPair p v).input = s.input := rfl
@[simp] theorem State.setPair_cartridge (s : State) (p : Pair) (v : Word) : (s.setPair p v).cartridge = s.cartridge := rfl
@[simp] theorem State.setPair_params (s : State) (p : Pair) (v : Word) : (s.setPair p v).params = s.params := rfl
@[simp] theorem State.setPair_events (s : State) (p : Pair) (v : Word) : (s.setPair p v).events = s.events := rfl
@[simp] theorem State.setPair_draws (s : State) (p : Pair) (v : Word) : (s.setPair p v).draws = s.draws := rfl

@[simp] theorem State.setIme_reg8 (s : State) (x : Bool) (r : Reg8) : (s.setIme x).reg8 r = s.reg8 r := rfl
@[simp] theorem State.setIme_pair (s : State) (x : Bool) (p : Pair) : (s.setIme x).pair p = s.pair p := rfl
@[simp] theorem State.setIme_hl (s : State) (x : Bool) : (s.setIme x).hl = s.hl := rfl
@[simp] theorem State.setEiPending_reg8 (s : State) (x : Bool) (r : Reg8) : (s.setEiPending x).reg8 r = s.reg8 r := rfl
@[simp] theorem State.setEiPending_pair (s : State) (x : Bool) (p : Pair) : (s.setEiPending x).pair p = s.pair p := rfl
@[simp] theorem State.setEiPending_hl (s : State) (x : Bool) : (s.setEiPending x).hl = s.hl := rfl
@[simp] theorem State.setRun_reg8 (s : State) (x : RunState) (r : Reg8) : (s.setRun x).reg8 r = s.reg8 r := rfl
@[simp] theorem State.setRun_pair (s : State) (x : RunState) (p : Pair) : (s.setRun x).pair p = s.pair p := rfl
@[simp] theorem State.setRun_hl (s : State) (x : RunState) : (s.setRun x).hl = s.hl := rfl
@[simp] theorem State.setClock_reg8 (s : State) (x : Nat) (r : Reg8) : (s.setClock x).reg8 r = s.reg8 r := rfl
@[simp] theorem State.setClock_pair (s : State) (x : Nat) (p : Pair) : (s.setClock x).pair p = s.pair p := rfl
@[simp] theorem State.setClock_hl (s : State) (x : Nat) : (s.setClock x).hl = s.hl := rfl
@[simp] theorem State.setSlots_reg8 (s : State) (x : SlotTable) (r : Reg8) : (s.setSlots x).reg8 r = s.reg8 r := rfl
@[simp] theorem State.setSlots_pair (s : State) (x : SlotTable) (p : Pair) : (s.setSlots x).pair p = s.pair p := rfl
@[simp] theorem State.setSlots_hl (s : State) (x : SlotTable) : (s.setSlots x).hl = s.hl := rfl
@[simp] theorem State.setMem_reg8 (s : State) (x : Memory) (r : Reg8) : (s.setMem x).reg8 r = s.reg8 r := rfl
@[simp] theorem State.setMem_pair (s : State) (x : Memory) (p : Pair) : (s.setMem x).pair p = s.pair p := rfl
@[simp] theorem State.setMem_hl (s : State) (x : Memory) : (s.setMem x).hl = s.hl := rfl
@[simp] theorem State.setIrq_reg8 (s : State) (x : Irq) (r : Reg8) : (s.setIrq x).reg8 r = s.reg8 r := rfl
@[simp] theorem State.setIrq_pair (s : State) (x : Irq) (p : Pair) : (s.setIrq x).pair p = s.pair p := rfl
@[simp] theorem State.setIrq_hl (s : State) (x : Irq) : (s.setIrq x).hl = s.hl := rfl
@[simp] theorem State.setTimer_reg8 (s : State) (x : Timer) (r : Reg8) : (s.setTimer x).reg8 r = s.reg8 r := rfl
@[simp] theorem State.setTimer_pair (s : State) (x : Timer) (p : Pair) : (s.setTimer x).pair p = s.pair p := rfl
@[simp] theorem State.setTimer_hl (s : State) (x : Timer) : (s.setTimer x).hl = s.hl := rfl
@[simp] theorem State.setSerial_reg8 (s : State) (x : Serial) (r : Reg8) : (s.setSerial x).reg8 r = s.reg8 r := rfl
@[simp] theorem State.setSerial_pair (s : State) (x : Serial) (p : Pair) : (s.setSerial x).pair p = s.pair p := rfl
@[simp] theorem State.setSerial_hl (s : State) (x : Serial) : (s.setSerial x).hl = s.hl := rfl
@[simp] theorem State.setVideo_reg8 (s : State) (x : Video) (r : Reg8) : (s.setVideo x).reg8 r = s.reg8 r := rfl
@[simp] theorem State.setVideo_pair (s : State) (x : Video) (p : Pair) : (s.setVideo x).pair p = s.pair p := rfl
@[simp] theorem State.setVideo_hl (s : State) (x : Video) : (s.setVideo x).hl = s.hl := rfl
@[simp] theorem State.setFrameBuffer_reg8 (s : State) (x : Memory) (r : Reg8) : (s.setFrameBuffer x).reg8 r = s.reg8 r := rfl
@[simp] theorem State.setFrameBuffer_pair (s : State) (x : Memory) (p : Pair) : (s.setFrameBuffer x).pair p = s.pair p := rfl
@[simp] theorem State.setFrameBuffer_hl (s : State) (x : Memory) : (s.setFrameBuffer x).hl = s.hl := rfl
@[simp] theorem State.setInput_reg8 (s : State) (x : Input) (r : Reg8) : (s.setInput x).reg8 r = s.reg8 r := rfl
@[simp] theorem State.setInput_pair (s : State) (x : Input) (p : Pair) : (s.setInput x).pair p = s.pair p := rfl
@[simp] theorem State.setInput_hl (s : State) (x : Input) : (s.setInput x).hl = s.hl := rfl
@[simp] theorem State.setCartridge_reg8 (s : State) (x : CartLink) (r : Reg8) : (s.setCartridge x).reg8 r = s.reg8 r := rfl
@[simp] theorem State.setCartridge_pair (s : State) (x : CartLink) (p : Pair) : (s.setCartridge x).pair p = s.pair p := rfl
@[simp] theorem State.setCartridge_hl (s : State) (x : CartLink) : (s.setCartridge x).hl = s.hl := rfl
@[simp] theorem State.setEvents_reg8 (s : State) (x : List HostEvent) (r : Reg8) : (s.setEvents x).reg8 r = s.reg8 r := rfl
@[simp] theorem State.setEvents_pair (s : State) (x : List HostEvent) (p : Pair) : (s.setEvents x).pair p = s.pair p := rfl
@[simp] theorem State.setEvents_hl (s : State) (x : List HostEvent) : (s.setEvents x).hl = s.hl := rfl
@[simp] theorem State.setDraws_reg8 (s : State) (x : Nat) (r : Reg8) : (s.setDraws x).reg8 r = s.reg8 r := rfl
@[simp] theorem State.setDraws_pair (s : State) (x : Nat) (p : Pair) : (s.setDraws x).pair p = s.pair p := rfl
@[simp] theorem State.setDraws_hl (s : State) (x : Nat) : (s.setDraws x).hl = s.hl := rfl
@[simp] theorem State.setParams_reg8 (s : State) (x : Params) (r : Reg8) : (s.setParams x).reg8 r = s.reg8 r := rfl
@[simp] theorem State.setParams_pair (s : State) (x : Params) (p : Pair) : (s.setParams x).pair p = s.pair p := rfl
@[simp] theorem State.setParams_hl (s : State) (x : Params) : (s.setParams x).hl = s.hl := rfl

end Sys2Proof.Machine
end

