-- ==== Sys2Proof/Laws/Clock.lean ====
section
/-! SUPPORT. What the clock leaves alone: a T-state of the peripherals writes only IF, the timer, the serial
controller, the video controller, the frame buffer and the events; `Tick()` also writes the clock. -/

namespace Sys2Proof.Machine

@[simp] theorem request_regs (k : Source) (s : State) : (request k s).regs = s.regs := by
  rfl
@[simp] theorem request_ime (k : Source) (s : State) : (request k s).ime = s.ime := by
  rfl
@[simp] theorem request_eiPending (k : Source) (s : State) : (request k s).eiPending = s.eiPending := by
  rfl
@[simp] theorem request_run (k : Source) (s : State) : (request k s).run = s.run := by
  rfl
@[simp] theorem request_clock (k : Source) (s : State) : (request k s).clock = s.clock := by
  rfl
@[simp] theorem request_slots (k : Source) (s : State) : (request k s).slots = s.slots := by
  rfl
@[simp] theorem request_mem (k : Source) (s : State) : (request k s).mem = s.mem := by
  rfl
@[simp] theorem request_timer (k : Source) (s : State) : (request k s).timer = s.timer := by
  rfl
@[simp] theorem request_serial (k : Source) (s : State) : (request k s).serial = s.serial := by
  rfl
@[simp] theorem request_video (k : Source) (s : State) : (request k s).video = s.video := by
  rfl
@[simp] theorem request_frameBuffer (k : Source) (s : State) : (request k s).frameBuffer = s.frameBuffer := by
  rfl
@[simp] theorem request_input (k : Source) (s : State) : (request k s).input = s.input := by
  rfl
@[simp] theorem request_cartridge (k : Source) (s : State) : (request k s).cartridge = s.cartridge := by
  rfl
@[simp] theorem request_params (k : Source) (s : State) : (request k s).params = s.params := by
  rfl
@[simp] theorem request_events (k : Source) (s : State) : (request k s).events = s.events := by
  rfl
@[simp] theorem request_draws (k : Source) (s : State) : (request k s).draws = s.draws := by
  rfl

@[simp] theorem acknowledge_regs (k : Source) (s : State) : (acknowledge k s).regs = s.regs := by
  rfl
@[simp] theorem acknowledge_ime (k : Source) (s : State) : (acknowledge k s).ime = s.ime := by
  rfl
@[simp] theorem acknowledge_eiPending (k : Source) (s : State) : (acknowledge k s).eiPending = s.eiPending := by
  rfl
@[simp] theorem acknowledge_run (k : Source) (s : State) : (acknowledge k s).run = s.run := by
  rfl
@[simp] theorem acknowledge_clock (k : Source) (s : State) : (acknowledge k s).clock = s.clock := by
  rfl
@[simp] theorem acknowledge_slots (k : Source) (s : State) : (acknowledge k s).slots = s.slots := by
  rfl
@[simp] theorem acknowledge_mem (k : Source) (s : State) : (acknowledge k s).mem = s.mem := by
  rfl
@[simp] theorem acknowledge_timer (k : Source) (s : State) : (acknowledge k s).timer = s.timer := by
  rfl
@[simp] theorem acknowledge_serial (k : Source) (s : State) : (acknowledge k s).serial = s.serial := by
  rfl
@[simp] theorem acknowledge_video (k : Source) (s : State) : (acknowledge k s).video = s.video := by
  rfl
@[simp] theorem acknowledge_frameBuffer (k : Source) (s : State) : (acknowledge k s).frameBuffer = s.frameBuffer := by
  rfl
@[simp] theorem acknowledge_input (k : Source) (s : State) : (acknowledge k s).input = s.input := by
  rfl
@[simp] theorem acknowledge_cartridge (k : Source) (s : State) : (acknowledge k s).cartridge = s.cartridge := by
  rfl
@[simp] theorem acknowledge_params (k : Source) (s : State) : (acknowledge k s).params = s.params := by
  rfl
@[simp] theorem acknowledge_events (k : Source) (s : State) : (acknowledge k s).events = s.events := by
  rfl
@[simp] theorem acknowledge_draws (k : Source) (s : State) : (acknowledge k s).draws = s.draws := by
  rfl

@[simp] theorem requestIf_regs (c : Bool) (k : Source) (s : State) : (requestIf c k s).regs = s.regs := by
  cases c <;> rfl
@[simp] theorem requestIf_ime (c : Bool) (k : Source) (s : State) : (requestIf c k s).ime = s.ime := by
  cases c <;> rfl
@[simp] theorem requestIf_eiPending (c : Bool) (k : Source) (s : State) : (requestIf c k s).eiPending = s.eiPending := by
  cases c <;> rfl
@[simp] theorem requestIf_run (c : Bool) (k : Source) (s : State) : (requestIf c k s).run = s.run := by
  cases c <;> rfl
@[simp] theorem requestIf_clock (c : Bool) (k : Source) (s : State) : (requestIf c k s).clock = s.clock := by
  cases c <;> rfl
@[simp] theorem requestIf_slots (c : Bool) (k : Source) (s : State) : (requestIf c k s).slots = s.slots := by
  cases c <;> rfl
@[simp] theorem requestIf_mem (c : Bool) (k : Source) (s : State) : (requestIf c k s).mem = s.mem := by
  cases c <;> rfl
@[simp] theorem requestIf_timer (c : Bool) (k : Source) (s : State) : (requestIf c k s).timer = s.timer := by
  cases c <;> rfl
@[simp] theorem requestIf_serial (c : Bool) (k : Source) (s : State) : (requestIf c k s).serial = s.serial := by
  cases c <;> rfl
@[simp] theorem requestIf_video (c : Bool) (k : Source) (s : State) : (requestIf c k s).video = s.video := by
  cases c <;> rfl
@[simp] theorem requestIf_frameBuffer (c : Bool) (k : Source) (s : State) : (requestIf c k s).frameBuffer = s.frameBuffer := by
  cases c <;> rfl
@[simp] theorem requestIf_input (c : Bool) (k : Source) (s : State) : (requestIf c k s).input = s.input := by
  cases c <;> rfl
@[simp] theorem requestIf_cartridge (c : Bool) (k : Source) (s : State) : (requestIf c k s).cartridge = s.cartridge := by
  cases c <;> rfl
@[simp] theorem requestIf_params (c : Bool) (k : Source) (s : State) : (requestIf c k s).params = s.params := by
  cases c <;> rfl
@[simp] theorem requestIf_events (c : Bool) (k : Source) (s : State) : (requestIf c k s).events = s.events := by
  cases c <;> rfl
@[simp] theorem requestIf_draws (c : Bool) (k : Source) (s : State) : (requestIf c k s).draws = s.draws := by
  cases c <;> rfl

@[simp] theorem timerStep_regs (s : State) : (timerStep s).regs = s.regs := by
  simp [timerStep]
@[simp] theorem timerStep_ime (s : State) : (timerStep s).ime = s.ime := by
  simp [timerStep]
@[simp] theorem timerStep_eiPending (s : State) : (timerStep s).eiPending = s.eiPending := by
  simp [timerStep]
@[simp] theorem timerStep_run (s : State) : (timerStep s).run = s.run := by
  simp [timerStep]
@[simp] theorem timerStep_slots (s : State) : (timerStep s).slots = s.slots := by
  simp [timerStep]
@[simp] theorem timerStep_mem (s : State) : (timerStep s).mem = s.mem := by
  simp [timerStep]
@[simp] theorem timerStep_input (s : State) : (timerStep s).input = s.input := by
  simp [timerStep]
@[simp] theorem timerStep_cartridge (s : State) : (timerStep s).cartridge = s.cartridge := by
  simp [timerStep]
@[simp] theorem timerStep_params (s : State) : (timerStep s).params = s.params := by
  simp [timerStep]
@[simp] theorem timerStep_draws (s : State) : (timerStep s).draws = s.draws := by
  simp [timerStep]
@[simp] theorem timerStep_clock (s : State) : (timerStep s).clock = s.clock := by
  simp [timerStep]
@[simp] theorem timerStep_serial (s : State) : (timerStep s).serial = s.serial := by
  simp [timerStep]
@[simp] theorem timerStep_video (s : State) : (timerStep s).video = s.video := by
  simp [timerStep]
@[simp] theorem timerStep_frameBuffer (s : State) : (timerStep s).frameBuffer = s.frameBuffer := by
  simp [timerStep]
@[simp] theorem timerStep_events (s : State) : (timerStep s).events = s.events := by
  simp [timerStep]

@[simp] theorem serialStep_regs (s : State) : (serialStep s).regs = s.regs := by
  simp only [serialStep]; split <;> simp
@[simp] theorem serialStep_ime (s : State) : (serialStep s).ime = s.ime := by
  simp only [serialStep]; split <;> simp
@[simp] theorem serialStep_eiPending (s : State) : (serialStep s).eiPending = s.eiPending := by
  simp only [serialStep]; split <;> simp
@[simp] theorem serialStep_run (s : State) : (serialStep s).run = s.run := by
  simp only [serialStep]; split <;> simp
@[simp] theorem serialStep_slots (s : State) : (serialStep s).slots = s.slots := by
  simp only [serialStep]; split <;> simp
@[simp] theorem serialStep_mem (s : State) : (serialStep s).mem = s.mem := by
  simp only [serialStep]; split <;> simp
@[simp] theorem serialStep_input (s : State) : (serialStep s).input = s.input := by
  simp only [serialStep]; split <;> simp
@[simp] theorem serialStep_cartridge (s : State) : (serialStep s).cartridge = s.cartridge := by
  simp only [serialStep]; split <;> simp
@[simp] theorem serialStep_params (s : State) : (serialStep s).params = s.params := by
  simp only [serialStep]; split <;> simp
@[simp] theorem serialStep_draws (s : State) : (serialStep s).draws = s.draws := by
  simp only [serialStep]; split <;> simp
@[simp] theorem serialStep_clock (s : State) : (serialStep s).clock = s.clock := by
  simp only [serialStep]; split <;> simp
@[simp] theorem serialStep_timer (s : State) : (serialStep s).timer = s.timer := by
  simp only [serialStep]; split <;> simp
@[simp] theorem serialStep_video (s : State) : (serialStep s).video = s.video := by
  simp only [serialStep]; split <;> simp
@[simp] theorem serialStep_frameBuffer (s : State) : (serialStep s).frameBuffer = s.frameBuffer := by
  simp only [serialStep]; split <;> simp

@[simp] theorem compareLy_regs (s : State) : (compareLy s).regs = s.regs := by
  simp [compareLy]
@[simp] theorem compareLy_ime (s : State) : (compareLy s).ime = s.ime := by
  simp [compareLy]
@[simp] theorem compareLy_eiPending (s : State) : (compareLy s).eiPending = s.eiPending := by
  simp [compareLy]
@[simp] theorem compareLy_run (s : State) : (compareLy s).run = s.run := by
  simp [compareLy]
@[simp] theorem compareLy_slots (s : State) : (compareLy s).slots = s.slots := by
  simp [compareLy]
@[simp] theorem compareLy_mem (s : State) : (compareLy s).mem = s.mem := by
  simp [compareLy]
@[simp] theorem compareLy_input (s : State) : (compareLy s).input = s.input := by
  simp [compareLy]
@[simp] theorem compareLy_cartridge (s : State) : (compareLy s).cartridge = s.cartridge := by
  simp [compareLy]
@[simp] theorem compareLy_params (s : State) : (compareLy s).params = s.params := by
  simp [compareLy]
@[simp] theorem compareLy_draws (s : State) : (compareLy s).draws = s.draws := by
  simp [compareLy]
@[simp] theorem compareLy_clock (s : State) : (compareLy s).clock = s.clock := by
  simp [compareLy]
@[simp] theorem compareLy_timer (s : State) : (compareLy s).timer = s.timer := by
  simp [compareLy]
@[simp] theorem compareLy_serial (s : State) : (compareLy s).serial = s.serial := by
  simp [compareLy]
@[simp] theorem compareLy_frameBuffer (s : State) : (compareLy s).frameBuffer = s.frameBuffer := by
  simp [compareLy]
@[simp] theorem compareLy_events (s : State) : (compareLy s).events = s.events := by
  simp [compareLy]

@[simp] theorem renderLine_regs (s : State) : (renderLine s).regs = s.regs := by
  rfl
@[simp] theorem renderLine_ime (s : State) : (renderLine s).ime = s.ime := by
  rfl
@[simp] theorem renderLine_eiPending (s : State) : (renderLine s).eiPending = s.eiPending := by
  rfl
@[simp] theorem renderLine_run (s : State) : (renderLine s).run = s.run := by
  rfl
@[simp] theorem renderLine_slots (s : State) : (renderLine s).slots = s.slots := by
  rfl
@[simp] theorem renderLine_mem (s : State) : (renderLine s).mem = s.mem := by
  rfl
@[simp] theorem renderLine_input (s : State) : (renderLine s).input = s.input := by
  rfl
@[simp] theorem renderLine_cartridge (s : State) : (renderLine s).cartridge = s.cartridge := by
  rfl
@[simp] theorem renderLine_params (s : State) : (renderLine s).params = s.params := by
  rfl
@[simp] theorem renderLine_draws (s : State) : (renderLine s).draws = s.draws := by
  rfl
@[simp] theorem renderLine_clock (s : State) : (renderLine s).clock = s.clock := by
  rfl
@[simp] theorem renderLine_timer (s : State) : (renderLine s).timer = s.timer := by
  rfl
@[simp] theorem renderLine_serial (s : State) : (renderLine s).serial = s.serial := by
  rfl
@[simp] theorem renderLine_video (s : State) : (renderLine s).video = s.video := by
  rfl
@[simp] theorem renderLine_irq (s : State) : (renderLine s).irq = s.irq := by
  rfl
@[simp] theorem renderLine_events (s : State) : (renderLine s).events = s.events := by
  rfl

@[simp] theorem newScanline_regs (s : State) : (newScanline s).regs = s.regs := by
  simp only [newScanline]; split <;> simp
@[simp] theorem newScanline_ime (s : State) : (newScanline s).ime = s.ime := by
  simp only [newScanline]; split <;> simp
@[simp] theorem newScanline_eiPending (s : State) : (newScanline s).eiPending = s.eiPending := by
  simp only [newScanline]; split <;> simp
@[simp] theorem newScanline_run (s : State) : (newScanline s).run = s.run := by
  simp only [newScanline]; split <;> simp
@[simp] theorem newScanline_slots (s : State) : (newScanline s).slots = s.slots := by
  simp only [newScanline]; split <;> simp
@[simp] theorem newScanline_mem (s : State) : (newScanline s).mem = s.mem := by
  simp only [newScanline]; split <;> simp
@[simp] theorem newScanline_input (s : State) : (newScanline s).input = s.input := by
  simp only [newScanline]; split <;> simp
@[simp] theorem newScanline_cartridge (s : State) : (newScanline s).cartridge = s.cartridge := by
  simp only [newScanline]; split <;> simp
@[simp] theorem newScanline_params (s : State) : (newScanline s).params = s.params := by
  simp only [newScanline]; split <;> simp
@[simp] theorem newScanline_draws (s : State) : (newScanline s).draws = s.draws := by
  simp only [newScanline]; split <;> simp
@[simp] theorem newScanline_clock (s : State) : (newScanline s).clock = s.clock := by
  simp only [newScanline]; split <;> simp
@[simp] theorem newScanline_timer (s : State) : (newScanline s).timer = s.timer := by
  simp only [newScanline]; split <;> simp
@[simp] theorem newScanline_serial (s : State) : (newScanline s).serial = s.serial := by
  simp only [newScanline]; split <;> simp
@[simp] theorem newScanline_frameBuffer (s : State) : (newScanline s).frameBuffer = s.frameBuffer := by
  simp only [newScanline]; split <;> simp
@[simp] theorem newScanline_events (s : State) : (newScanline s).events = s.events := by
  simp only [newScanline]; split <;> simp

@[simp] theorem enterOamRead_regs (s : State) : (enterOamRead s).regs = s.regs := by
  simp [enterOamRead]
@[simp] theorem enterOamRead_ime (s : State) : (enterOamRead s).ime = s.ime := by
  simp [enterOamRead]
@[simp] theorem enterOamRead_eiPending (s : State) : (enterOamRead s).eiPending = s.eiPending := by
  simp [enterOamRead]
@[simp] theorem enterOamRead_run (s : State) : (enterOamRead s).run = s.run := by
  simp [enterOamRead]
@[simp] theorem enterOamRead_slots (s : State) : (enterOamRead s).slots = s.slots := by
  simp [enterOamRead]
@[simp] theorem enterOamRead_mem (s : State) : (enterOamRead s).mem = s.mem := by
  simp [enterOamRead]
@[simp] theorem enterOamRead_input (s : State) : (enterOamRead s).input = s.input := by
  simp [enterOamRead]
@[simp] theorem enterOamRead_cartridge (s : State) : (enterOamRead s).cartridge = s.cartridge := by
  simp [enterOamRead]
@[simp] theorem enterOamRead_params (s : State) : (enterOamRead s).params = s.params := by
  simp [enterOamRead]
@[simp] theorem enterOamRead_draws (s : State) : (enterOamRead s).draws = s.draws := by
  simp [enterOamRead]
@[simp] theorem enterOamRead_clock (s : State) : (enterOamRead s).clock = s.clock := by
  simp [enterOamRead]
@[simp] theorem enterOamRead_timer (s : State) : (enterOamRead s).timer = s.timer := by
  simp [enterOamRead]
@[simp] theorem enterOamRead_serial (s : State) : (enterOamRead s).serial = s.serial := by
  simp [enterOamRead]
@[simp] theorem enterOamRead_video (s : State) : (enterOamRead s).video = s.video := by
  simp [enterOamRead]
@[simp] theorem enterOamRead_frameBuffer (s : State) : (enterOamRead s).frameBuffer = s.frameBuffer := by
  simp [enterOamRead]
@[simp] theorem enterOamRead_events (s : State) : (enterOamRead s).events = s.events := by
  simp [enterOamRead]

@[simp] theorem enterHblank_regs (s : State) : (enterHblank s).regs = s.regs := by
  simp only [enterHblank]; split <;> simp
@[simp] theorem enterHblank_ime (s : State) : (enterHblank s).ime = s.ime := by
  simp only [enterHblank]; split <;> simp
@[simp] theorem enterHblank_eiPending (s : State) : (enterHblank s).eiPending = s.eiPending := by
  simp only [enterHblank]; split <;> simp
@[simp] theorem enterHblank_run (s : State) : (enterHblank s).run = s.run := by
  simp only [enterHblank]; split <;> simp
@[simp] theorem enterHblank_slots (s : State) : (enterHblank s).slots = s.slots := by
  simp only [enterHblank]; split <;> simp
@[simp] theorem enterHblank_mem (s : State) : (enterHblank s).mem = s.mem := by
  simp only [enterHblank]; split <;> simp
@[simp] theorem enterHblank_input (s : State) : (enterHblank s).input = s.input := by
  simp only [enterHblank]; split <;> simp
@[simp] theorem enterHblank_cartridge (s : State) : (enterHblank s).cartridge = s.cartridge := by
  simp only [enterHblank]; split <;> simp
@[simp] theorem enterHblank_params (s : State) : (enterHblank s).params = s.params := by
  simp only [enterHblank]; split <;> simp
@[simp] theorem enterHblank_draws (s : State) : (enterHblank s).draws = s.draws := by
  simp only [enterHblank]; split <;> simp
@[simp] theorem enterHblank_clock (s : State) : (enterHblank s).clock = s.clock := by
  simp only [enterHblank]; split <;> simp
@[simp] theorem enterHblank_timer (s : State) : (enterHblank s).timer = s.timer := by
  simp only [enterHblank]; split <;> simp
@[simp] theorem enterHblank_serial (s : State) : (enterHblank s).serial = s.serial := by
  simp only [enterHblank]; split <;> simp
@[simp] theorem enterHblank_video (s : State) : (enterHblank s).video = s.video := by
  simp only [enterHblank]; split <;> simp
@[simp] theorem enterHblank_events (s : State) : (enterHblank s).events = s.events := by
  simp only [enterHblank]; split <;> simp

@[simp] theorem enterVblank_regs (s : State) : (enterVblank s).regs = s.regs := by
  simp only [enterVblank]; split <;> simp
@[simp] theorem enterVblank_ime (s : State) : (enterVblank s).ime = s.ime := by
  simp only [enterVblank]; split <;> simp
@[simp] theorem enterVblank_eiPending (s : State) : (enterVblank s).eiPending = s.eiPending := by
  simp only [enterVblank]; split <;> simp
@[simp] theorem enterVblank_run (s : State) : (enterVblank s).run = s.run := by
  simp only [enterVblank]; split <;> simp
@[simp] theorem enterVblank_slots (s : State) : (enterVblank s).slots = s.slots := by
  simp only [enterVblank]; split <;> simp
@[simp] theorem enterVblank_mem (s : State) : (enterVblank s).mem = s.mem := by
  simp only [enterVblank]; split <;> simp
@[simp] theorem enterVblank_input (s : State) : (enterVblank s).input = s.input := by
  simp only [enterVblank]; split <;> simp
@[simp] theorem enterVblank_cartridge (s : State) : (enterVblank s).cartridge = s.cartridge := by
  simp only [enterVblank]; split <;> simp
@[simp] theorem enterVblank_params (s : State) : (enterVblank s).params = s.params := by
  simp only [enterVblank]; split <;> simp
@[simp] theorem enterVblank_draws (s : State) : (enterVblank s).draws = s.draws := by
  simp only [enterVblank]; split <;> simp
@[simp] theorem enterVblank_clock (s : State) : (enterVblank s).clock = s.clock := by
  simp only [enterVblank]; split <;> simp
@[simp] theorem enterVblank_timer (s : State) : (enterVblank s).timer = s.timer := by
  simp only [enterVblank]; split <;> simp
@[simp] theorem enterVblank_serial (s : State) : (enterVblank s).serial = s.serial := by
  simp only [enterVblank]; split <;> simp
@[simp] theorem enterVblank_video (s : State) : (enterVblank s).video = s.video := by
  simp only [enterVblank]; split <;> simp
@[simp] theorem enterVblank_frameBuffer (s : State) : (enterVblank s).frameBuffer = s.frameBuffer := by
  simp only [enterVblank]; split <;> simp

@[simp] theorem videoStep_regs (s : State) : (videoStep s).regs = s.regs := by
  simp only [videoStep]; split <;> simp
@[simp] theorem videoStep_ime (s : State) : (videoStep s).ime = s.ime := by
  simp only [videoStep]; split <;> simp
@[simp] theorem videoStep_eiPending (s : State) : (videoStep s).eiPending = s.eiPending := by
  simp only [videoStep]; split <;> simp
@[simp] theorem videoStep_run (s : State) : (videoStep s).run = s.run := by
  simp only [videoStep]; split <;> simp
@[simp] theorem videoStep_slots (s : State) : (videoStep s).slots = s.slots := by
  simp only [videoStep]; split <;> simp
@[simp] theorem videoStep_mem (s : State) : (videoStep s).mem = s.mem := by
  simp only [videoStep]; split <;> simp
@[simp] theorem videoStep_input (s : State) : (videoStep s).input = s.input := by
  simp only [videoStep]; split <;> simp
@[simp] theorem videoStep_cartridge (s : State) : (videoStep s).cartridge = s.cartridge := by
  simp only [videoStep]; split <;> simp
@[simp] theorem videoStep_params (s : State) : (videoStep s).params = s.params := by
  simp only [videoStep]; split <;> simp
@[simp] theorem videoStep_draws (s : State) : (videoStep s).draws = s.draws := by
  simp only [videoStep]; split <;> simp
@[simp] theorem videoStep_clock (s : State) : (videoStep s).clock = s.clock := by
  simp only [videoStep]; split <;> simp
@[simp] theorem videoStep_timer (s : State) : (videoStep s).timer = s.timer := by
  simp only [videoStep]; split <;> simp
@[simp] theorem videoStep_serial (s : State) : (videoStep s).serial = s.serial := by
  simp only [videoStep]; split <;> simp

@[simp] theorem tState_regs (s : State) : (tState s).regs = s.regs := by
  simp [tState]
@[simp] theorem tState_ime (s : State) : (tState s).ime = s.ime := by
  simp [tState]
@[simp] theorem tState_eiPending (s : State) : (tState s).eiPending = s.eiPending := by
  simp [tState]
@[simp] theorem tState_run (s : State) : (tState s).run = s.run := by
  simp [tState]
@[simp] theorem tState_slots (s : State) : (tState s).slots = s.slots := by
  simp [tState]
@[simp] theorem tState_mem (s : State) : (tState s).mem = s.mem := by
  simp [tState]
@[simp] theorem tState_input (s : State) : (tState s).input = s.input := by
  simp [tState]
@[simp] theorem tState_cartridge (s : State) : (tState s).cartridge = s.cartridge := by
  simp [tState]
@[simp] theorem tState_params (s : State) : (tState s).params = s.params := by
  simp [tState]
@[simp] theorem tState_draws (s : State) : (tState s).draws = s.draws := by
  simp [tState]
@[simp] theorem tState_clock (s : State) : (tState s).clock = s.clock := by
  simp [tState]

@[simp] theorem tick_regs (s : State) : (tick s).regs = s.regs := by
  simp [tick]
@[simp] theorem tick_ime (s : State) : (tick s).ime = s.ime := by
  simp [tick]
@[simp] theorem tick_eiPending (s : State) : (tick s).eiPending = s.eiPending := by
  simp [tick]
@[simp] theorem tick_run (s : State) : (tick s).run = s.run := by
  simp [tick]
@[simp] theorem tick_slots (s : State) : (tick s).slots = s.slots := by
  simp [tick]
@[simp] theorem tick_mem (s : State) : (tick s).mem = s.mem := by
  simp [tick]
@[simp] theorem tick_input (s : State) : (tick s).input = s.input := by
  simp [tick]
@[simp] theorem tick_cartridge (s : State) : (tick s).cartridge = s.cartridge := by
  simp [tick]
@[simp] theorem tick_params (s : State) : (tick s).params = s.params := by
  simp [tick]
@[simp] theorem tick_draws (s : State) : (tick s).draws = s.draws := by
  simp [tick]

@[simp] theorem tickN_regs (n : Nat) (s : State) : (tickN n s).regs = s.regs := by
  induction n generalizing s with
  | zero => rfl
  | succ n ih => simp [tickN, ih]
@[simp] theorem tickN_ime (n : Nat) (s : State) : (tickN n s).ime = s.ime := by
  induction n generalizing s with
  | zero => rfl
  | succ n ih => simp [tickN, ih]
@[simp] theorem tickN_eiPending (n : Nat) (s : State) : (tickN n s).eiPending = s.eiPending := by
  induction n generalizing s with
  | zero => rfl
  | succ n ih => simp [tickN, ih]
@[simp] theorem tickN_run (n : Nat) (s : State) : (tickN n s).run = s.run := by
  induction n generalizing s with
  | zero => rfl
  | succ n ih => simp [tickN, ih]
@[simp] theorem tickN_slots (n : Nat) (s : State) : (tickN n s).slots = s.slots := by
  induction n generalizing s with
  | zero => rfl
  | succ n ih => simp [tickN, ih]
@[simp] theorem tickN_mem (n : Nat) (s : State) : (tickN n s).mem = s.mem := by
  induction n generalizing s with
  | zero => rfl
  | succ n ih => simp [tickN, ih]
@[simp] theorem tickN_input (n : Nat) (s : State) : (tickN n s).input = s.input := by
  induction n generalizing s with
  | zero => rfl
  | succ n ih => simp [tickN, ih]
@[simp] theorem tickN_cartridge (n : Nat) (s : State) : (tickN n s).cartridge = s.cartridge := by
  induction n generalizing s with
  | zero => rfl
  | succ n ih => simp [tickN, ih]
@[simp] theorem tickN_params (n : Nat) (s : State) : (tickN n s).params = s.params := by
  induction n generalizing s with
  | zero => rfl
  | succ n ih => simp [tickN, ih]
@[simp] theorem tickN_draws (n : Nat) (s : State) : (tickN n s).draws = s.draws := by
  induction n generalizing s with
  | zero => rfl
  | succ n ih => simp [tickN, ih]

/-- `Tick()` adds four T-states to the clock (R12). -/
@[simp] theorem tick_clock (s : State) : (tick s).clock = s.clock + 4 := by simp [tick]

/-- `Tick(n)` adds `4 * n` (R12). -/
@[simp] theorem tickN_clock (n : Nat) (s : State) : (tickN n s).clock = s.clock + 4 * n := by
  induction n generalizing s with
  | zero => rfl
  | succ n ih =>
    simp only [tickN, ih, tick_clock]
    omega

/-- The timer after one T-state (R350). -/
@[simp] theorem timerStep_timer (s : State) : (timerStep s).timer = s.timer.step := by simp [timerStep]

/-- The serial controller after one T-state (R358). -/
@[simp] theorem serialStep_serial (s : State) : (serialStep s).serial = s.serial.step := by
  simp only [serialStep]; split <;> simp

@[simp] theorem tState_timer (s : State) : (tState s).timer = s.timer.step := by simp [tState]

@[simp] theorem tState_serial (s : State) : (tState s).serial = s.serial.step := by simp [tState]

/-- The timer after one machine cycle: four of its steps (R411). -/
@[simp] theorem tick_timer (s : State) : (tick s).timer = s.timer.step.step.step.step := by simp [tick]

/-- The serial controller after one machine cycle (R411). -/
@[simp] theorem tick_serial (s : State) : (tick s).serial = s.serial.step.step.step.step := by simp [tick]

/-- IE is not touched by a request. -/
@[simp] theorem request_enable (k : Source) (s : State) : (request k s).irq.enable = s.irq.enable := rfl

@[simp] theorem requestIf_enable (c : Bool) (k : Source) (s : State) :
    (requestIf c k s).irq.enable = s.irq.enable := by cases c <;> rfl

@[simp] theorem timerStep_enable (s : State) : (timerStep s).irq.enable = s.irq.enable := by simp [timerStep]

@[simp] theorem serialStep_enable (s : State) : (serialStep s).irq.enable = s.irq.enable := by
  simp only [serialStep]; split <;> simp

@[simp] theorem compareLy_enable (s : State) : (compareLy s).irq.enable = s.irq.enable := by simp [compareLy]

@[simp] theorem videoStep_enable (s : State) : (videoStep s).irq.enable = s.irq.enable := by
  simp only [videoStep, enterVblank, enterHblank, enterOamRead, newScanline]
  repeat' split
  all_goals simp

@[simp] theorem tState_enable (s : State) : (tState s).irq.enable = s.irq.enable := by simp [tState]

/-- `Tick()` leaves IE alone. -/
@[simp] theorem tick_enable (s : State) : (tick s).irq.enable = s.irq.enable := by simp [tick]

@[simp] theorem tickN_enable (n : Nat) (s : State) : (tickN n s).irq.enable = s.irq.enable := by
  induction n generalizing s with
  | zero => rfl
  | succ n ih => simp [tickN, ih]

@[simp] theorem tick_reg8 (s : State) (r : Reg8) : (tick s).reg8 r = s.reg8 r := by simp [State.reg8]

@[simp] theorem tick_pair (s : State) (p : Pair) : (tick s).pair p = s.pair p := by simp [State.pair]

@[simp] theorem tick_hl (s : State) : (tick s).hl = s.hl := by simp [State.hl]

/-- While the display is disabled the video step does nothing (R372). -/
theorem videoStep_of_off (s : State) (h : s.video.displayOn = false) : videoStep s = s := by simp [videoStep, h]

/-! Time does not look at the CPU registers: it commutes with a write of them. -/

theorem requestIf_setRegs (c : Bool) (k : Source) (s : State) (r : Regs) :
    requestIf c k (s.setRegs r) = (requestIf c k s).setRegs r := by cases c <;> rfl

theorem timerStep_setRegs (s : State) (r : Regs) : timerStep (s.setRegs r) = (timerStep s).setRegs r :=
  requestIf_setRegs s.timer.overflows .timer (s.setTimer s.timer.step) r

theorem serialStep_setRegs (s : State) (r : Regs) : serialStep (s.setRegs r) = (serialStep s).setRegs r := by
  by_cases h : s.serial.completes = true
  · have h1 : serialStep s = _ := if_pos h
    have h2 : serialStep (s.setRegs r) = _ := if_pos h
    rw [h1, h2]; rfl
  · have h1 : serialStep s = _ := if_neg h
    have h2 : serialStep (s.setRegs r) = _ := if_neg h
    rw [h1, h2]; rfl

theorem renderPixels_setRegs (s : State) (r : Regs) (y n : Nat) : renderPixels (s.setRegs r) y n = renderPixels s y n := by
  induction n with
  | zero => rfl
  | succ n ih => simp only [renderPixels, ih]; rfl

theorem compareLy_setRegs (s : State) (r : Regs) : compareLy (s.setRegs r) = (compareLy s).setRegs r := by
  exact requestIf_setRegs (s.video.ly == s.video.lyc && s.video.selectLyc) .lcdStat
    (s.setVideo { s.video with lycEq := s.video.ly == s.video.lyc }) r

theorem newScanline_setRegs (s : State) (r : Regs) : newScanline (s.setRegs r) = (newScanline s).setRegs r := by
  simp only [newScanline, apply_ite (State.setRegs · r), compareLy_setRegs]; rfl

theorem enterOamRead_setRegs (s : State) (r : Regs) : enterOamRead (s.setRegs r) = (enterOamRead s).setRegs r :=
  requestIf_setRegs _ _ _ _

theorem enterHblank_setRegs (s : State) (r : Regs) : enterHblank (s.setRegs r) = (enterHblank s).setRegs r := by
  have h : renderLine (s.setRegs r) = (renderLine s).setRegs r := by
    simp only [renderLine, renderPixels_setRegs]; rfl
  simp only [enterHblank, apply_ite (State.setRegs · r), h, requestIf_setRegs]; rfl

theorem enterVblank_setRegs (s : State) (r : Regs) : enterVblank (s.setRegs r) = (enterVblank s).setRegs r := by
  have h : request .vblank (s.setRegs r) = (request .vblank s).setRegs r := rfl
  simp only [enterVblank, apply_ite (State.setRegs · r), h, requestIf_setRegs]; rfl

theorem tState_setRegs (s : State) (r : Regs) : tState (s.setRegs r) = (tState s).setRegs r := by
  simp only [tState, timerStep_setRegs, serialStep_setRegs]
  generalize serialStep (timerStep s) = u
  have h (v : Video) : (u.setRegs r).setVideo v = (u.setVideo v).setRegs r := rfl
  by_cases hd : u.video.displayOn = true
  · have h1 : videoStep u = _ := if_pos hd
    have h2 : videoStep (u.setRegs r) = _ := if_pos hd
    rw [h1, h2, h, newScanline_setRegs, enterOamRead_setRegs, enterHblank_setRegs, enterVblank_setRegs]; rfl
  · have h1 : videoStep u = _ := if_neg hd
    have h2 : videoStep (u.setRegs r) = _ := if_neg hd
    rw [h1, h2]

/-- Time does not look at the CPU registers. -/
theorem tick_setRegs (s : State) (r : Regs) : tick (s.setRegs r) = (tick s).setRegs r := by
  have h : (s.setRegs r).setClock ((s.setRegs r).clock + 4) = (s.setClock (s.clock + 4)).setRegs r := rfl
  simp only [tick, h, tState_setRegs]

end Sys2Proof.Machine
end

