-- ==== Sys2Proof/Laws/Interconnect.lean ====
section
/-! SUPPORT. The interconnect table under the lockout (R60). -/

namespace Sys2Proof.Machine

/-- The lockout turns the map with the boot ROM into the map with the cartridge. -/
theorem rebind_slotsWithBootRom :
    slotsWithBootRom.rebindFrom 0x0000 0x00FF 0x0100 = slotsWithCartridge := by decide

/-- The lockout fired again changes nothing. -/
theorem rebind_slotsWithCartridge :
    slotsWithCartridge.rebindFrom 0x0000 0x00FF 0x0100 = slotsWithCartridge := by decide

/-- An entry is the unmapped handler or the handler of a run. -/
theorem SlotTable.slot_mem (t : SlotTable) (a : Nat) : t.slot a = .unmapped ∨ ∃ c ∈ t, t.slot a = c.2 := by
  induction t with
  | nil => exact .inl rfl
  | cons d t ih =>
    obtain ⟨last, h⟩ := d
    by_cases ha : a ≤ last
    · exact .inr ⟨(last, h), by simp, by simp [SlotTable.slot, ha]⟩
    · rcases ih with h1 | ⟨c, hc, h1⟩
      · exact .inl (by simpa [SlotTable.slot, ha] using h1)
      · exact .inr ⟨c, by simp [hc], by simpa [SlotTable.slot, ha] using h1⟩

/-- A property of the unmapped handler and of every run's handler holds of every entry. -/
theorem SlotTable.slot_all (p : Handler → Bool) (t : SlotTable) (h0 : p .unmapped = true)
    (h : t.all (fun c => p c.2) = true) (a : Nat) : p (t.slot a) = true := by
  rcases t.slot_mem a with h1 | ⟨c, hc, h1⟩
  · rw [h1, h0]
  · rw [h1]
    exact List.all_eq_true.1 h c hc

/-- A triggered mapping that is not the lockout fails. -/
def Handler.lockoutOnly : Handler → Bool
  | .triggered kind first last source => .triggered kind first last source == lockout
  | _ => true

/-- The only triggered mapping of the two maps is the lockout. -/
theorem slot_triggered_of_map (t : SlotTable) (ht : t = slotsWithCartridge ∨ t = slotsWithBootRom) (a : Nat)
    (kind : TriggerType) (first last source : Word) (h : t.slot a = .triggered kind first last source) :
    Handler.triggered kind first last source = lockout := by
  have hp : Handler.lockoutOnly (t.slot a) = true := by
    rcases ht with rfl | rfl
    · exact SlotTable.slot_all _ _ rfl (by decide) a
    · exact SlotTable.slot_all _ _ rfl (by decide) a
  rw [h] at hp
  simpa [Handler.lockoutOnly] using hp

end Sys2Proof.Machine
end

