-- ==== Sys2Proof/Laws/Memory.lean ====
section
/-! SUPPORT. Memory: the read-over-write laws, and that every operation keeps the canonical form. -/

namespace Sys2Proof.Machine

/-- Every cell of `m` satisfies `p`. -/
def Memory.Cells (p : Host.Cell → Prop) (m : Memory) : Prop := ∀ c ∈ m, p c

theorem Memory.read_erase_same (m : Memory) (k : Nat) : (m.erase k).read k = Config.blankByte := by
  induction m with
  | nil => rfl
  | cons c m ih =>
    obtain ⟨a, v⟩ := c
    by_cases h : a = k
    · simpa [Memory.erase, h] using ih
    · simpa [Memory.erase, Memory.read, h] using ih

theorem Memory.read_erase_other (m : Memory) (k j : Nat) (h : j ≠ k) : (m.erase k).read j = m.read j := by
  induction m with
  | nil => rfl
  | cons c m ih =>
    obtain ⟨a, v⟩ := c
    by_cases ha : a = k
    · subst ha
      simp [Memory.erase, Memory.read, ih, Ne.symm h]
    · simp only [Memory.erase, ha, ↓reduceIte, Memory.read, ih]

theorem Memory.read_place_other (m : Memory) (k j : Nat) (w : Byte) (h : j ≠ k) :
    (m.place k w).read j = m.read j := by
  induction m with
  | nil => simp [Memory.place, Memory.read, Ne.symm h]
  | cons c m ih =>
    obtain ⟨a, v⟩ := c
    by_cases ha : k < a
    · simp [Memory.place, Memory.read, ha, Ne.symm h]
    · simp only [Memory.place, ha, ↓reduceIte, Memory.read, ih]

/-- A list without an entry at `k` reads `w` there once an entry is placed. -/
theorem Memory.read_place_same (m : Memory) (k : Nat) (w : Byte) (h : ∀ c ∈ m, c.1 ≠ k) :
    (m.place k w).read k = w := by
  induction m with
  | nil => simp [Memory.place, Memory.read]
  | cons c m ih =>
    obtain ⟨a, v⟩ := c
    have hne : a ≠ k := h (a, v) (by simp)
    by_cases ha : k < a
    · simp [Memory.place, Memory.read, ha]
    · have := ih (fun c hc => h c (by simp [hc]))
      simp [Memory.place, Memory.read, ha, hne, this]

theorem Memory.mem_erase (m : Memory) (k : Nat) (c : Host.Cell) : c ∈ m.erase k ↔ c ∈ m ∧ c.1 ≠ k := by
  induction m with
  | nil => simp [Memory.erase]
  | cons d m ih =>
    obtain ⟨a, v⟩ := d
    by_cases h : a = k
    · simp only [Memory.erase, h, ↓reduceIte, ih, List.mem_cons]
      constructor
      · rintro ⟨h1, h2⟩
        exact ⟨.inr h1, h2⟩
      · rintro ⟨rfl | h1, h2⟩
        · exact absurd rfl h2
        · exact ⟨h1, h2⟩
    · simp only [Memory.erase, h, ↓reduceIte, List.mem_cons, ih]
      constructor
      · rintro (rfl | ⟨h1, h2⟩)
        · exact ⟨.inl rfl, h⟩
        · exact ⟨.inr h1, h2⟩
      · rintro ⟨rfl | h1, h2⟩
        · exact .inl rfl
        · exact .inr ⟨h1, h2⟩

theorem Memory.mem_place (m : Memory) (k : Nat) (w : Byte) (c : Host.Cell) :
    c ∈ m.place k w ↔ c = (k, w) ∨ c ∈ m := by
  induction m with
  | nil => simp [Memory.place]
  | cons d m ih =>
    obtain ⟨a, v⟩ := d
    by_cases h : k < a
    · simp [Memory.place, h]
    · simp only [Memory.place, h, ↓reduceIte, List.mem_cons, ih]
      constructor
      · rintro (h1 | h1 | h1)
        · exact .inr (.inl h1)
        · exact .inl h1
        · exact .inr (.inr h1)
      · rintro (h1 | h1 | h1)
        · exact .inr (.inl h1)
        · exact .inl h1
        · exact .inr (.inr h1)

/-- A read after a write of the same cell gives the value written. -/
@[simp] theorem Memory.read_write_same (m : Memory) (k : Nat) (w : Byte) : (m.write k w).read k = w := by
  by_cases h : w = Config.blankByte
  · simp [Memory.write, h, Memory.read_erase_same]
  · simp only [Memory.write, h, ↓reduceIte]
    exact Memory.read_place_same _ _ _ (fun c hc => ((Memory.mem_erase m k c).1 hc).2)

/-- A write leaves every other cell alone. -/
theorem Memory.read_write_other (m : Memory) (k j : Nat) (w : Byte) (h : j ≠ k) :
    (m.write k w).read j = m.read j := by
  by_cases hw : w = Config.blankByte
  · simp [Memory.write, hw, Memory.read_erase_other _ _ _ h]
  · simp [Memory.write, hw, Memory.read_place_other _ _ _ _ h, Memory.read_erase_other _ _ _ h]

/-- A read after a write. -/
theorem Memory.read_write (m : Memory) (k j : Nat) (w : Byte) :
    (m.write k w).read j = if j = k then w else m.read j := by
  by_cases h : j = k
  · simp [h]
  · simp [h, Memory.read_write_other]

theorem Memory.wf_cons (a : Nat) (v : Byte) (m : Memory) :
    Memory.wf ((a, v) :: m) = true ↔ v ≠ Config.blankByte ∧ (∀ c ∈ m, a < c.1) ∧ m.wf = true := by
  simp [Memory.wf, List.all_eq_true, and_assoc]

theorem Memory.wf_erase (m : Memory) (k : Nat) (h : m.wf = true) : (m.erase k).wf = true := by
  induction m with
  | nil => rfl
  | cons c m ih =>
    obtain ⟨a, v⟩ := c
    rw [Memory.wf_cons] at h
    obtain ⟨hv, hlt, hm⟩ := h
    by_cases ha : a = k
    · simpa [Memory.erase, ha] using ih hm
    · simp only [Memory.erase, ha, ↓reduceIte, Memory.wf_cons]
      exact ⟨hv, fun c hc => hlt c ((Memory.mem_erase m k c).1 hc).1, ih hm⟩

theorem Memory.wf_place (m : Memory) (k : Nat) (w : Byte) (h : m.wf = true) (hw : w ≠ Config.blankByte)
    (hk : ∀ c ∈ m, c.1 ≠ k) : (m.place k w).wf = true := by
  induction m with
  | nil => simp [Memory.place, Memory.wf, hw]
  | cons c m ih =>
    obtain ⟨a, v⟩ := c
    have h0 := h
    rw [Memory.wf_cons] at h
    obtain ⟨hv, hlt, hm⟩ := h
    by_cases ha : k < a
    · simp only [Memory.place, ha, ↓reduceIte]
      rw [Memory.wf_cons]
      refine ⟨hw, ?_, h0⟩
      intro c hc
      rcases List.mem_cons.1 hc with rfl | hc
      · exact ha
      · exact Nat.lt_trans ha (hlt c hc)
    · simp only [Memory.place, ha, ↓reduceIte]
      rw [Memory.wf_cons]
      have hne : a ≠ k := hk (a, v) (by simp)
      refine ⟨hv, ?_, ih hm (fun c hc => hk c (by simp [hc]))⟩
      intro c hc
      rcases (Memory.mem_place m k w c).1 hc with rfl | hc
      · exact Nat.lt_of_le_of_ne (Nat.le_of_not_lt ha) hne
      · exact hlt c hc

/-- A write keeps the canonical form. -/
theorem Memory.wf_write (m : Memory) (k : Nat) (w : Byte) (h : m.wf = true) : (m.write k w).wf = true := by
  by_cases hw : w = Config.blankByte
  · simp [Memory.write, hw, Memory.wf_erase _ _ h]
  · simp only [Memory.write, hw, ↓reduceIte]
    exact Memory.wf_place _ _ _ (Memory.wf_erase m k h) hw (fun c hc => ((Memory.mem_erase m k c).1 hc).2)

/-- A run of writes keeps the canonical form. -/
theorem Memory.wf_writeList (bs : List Byte) : ∀ (m : Memory) (k : Nat), m.wf = true →
    (m.writeList k bs).wf = true := by
  induction bs with
  | nil => exact fun _ _ h => h
  | cons b bs ih => exact fun m k h => ih _ _ (Memory.wf_write m k b h)

/-- A write keeps a property of every cell that the written cell has. -/
theorem Memory.cells_write (p : Host.Cell → Prop) (m : Memory) (k : Nat) (w : Byte) (h : ∀ c ∈ m, p c)
    (hk : p (k, w)) : ∀ c ∈ m.write k w, p c := by
  intro c hc
  by_cases hw : w = Config.blankByte
  · simp only [Memory.write, hw, ↓reduceIte] at hc
    exact h c ((Memory.mem_erase m k c).1 hc).1
  · simp only [Memory.write, hw, ↓reduceIte] at hc
    rcases (Memory.mem_place _ k w c).1 hc with rfl | hc
    · exact hk
    · exact h c ((Memory.mem_erase m k c).1 hc).1

/-- In canonical form a listed cell reads its entry. -/
theorem Memory.read_of_mem (m : Memory) (h : m.wf = true) (c : Host.Cell) (hc : c ∈ m) : m.read c.1 = c.2 := by
  induction m with
  | nil => simp at hc
  | cons d m ih =>
    obtain ⟨a, v⟩ := d
    rw [Memory.wf_cons] at h
    rcases List.mem_cons.1 hc with rfl | hc
    · simp [Memory.read]
    · have : a ≠ c.1 := Nat.ne_of_lt (h.2.1 c hc)
      simpa [Memory.read, this] using ih h.2.2 hc

/-- A cell above every listed address reads blank. -/
theorem Memory.read_of_forall_ne (m : Memory) (k : Nat) (h : ∀ c ∈ m, c.1 ≠ k) : m.read k = Config.blankByte := by
  induction m with
  | nil => rfl
  | cons d m ih =>
    obtain ⟨a, v⟩ := d
    have : a ≠ k := h (a, v) (by simp)
    simpa [Memory.read, this] using ih (fun c hc => h c (by simp [hc]))

/-- Canonical memories that read alike are equal data. -/
theorem Memory.ext_of_wf : ∀ (m n : Memory), m.wf = true → n.wf = true → (∀ k, m.read k = n.read k) → m = n := by
  intro m
  induction m with
  | nil =>
    intro n _ hn h
    cases n with
    | nil => rfl
    | cons d n =>
      obtain ⟨b, w⟩ := d
      rw [Memory.wf_cons] at hn
      have := h b
      simp [Memory.read] at this
      exact absurd this.symm hn.1
  | cons c m ih =>
    obtain ⟨a, v⟩ := c
    intro n hm hn h
    cases n with
    | nil =>
      rw [Memory.wf_cons] at hm
      have := h a
      simp [Memory.read] at this
      exact absurd this hm.1
    | cons d n =>
      obtain ⟨b, w⟩ := d
      have hm0 := hm
      have hn0 := hn
      rw [Memory.wf_cons] at hm hn
      have hab : a = b := by
        rcases Nat.lt_trichotomy a b with hlt | heq | hgt
        · have h1 := h a
          have h2 : Memory.read ((b, w) :: n) a = Config.blankByte := by
            apply Memory.read_of_forall_ne
            intro c hc
            rcases List.mem_cons.1 hc with rfl | hc
            · exact Nat.ne_of_gt hlt
            · exact Nat.ne_of_gt (Nat.lt_trans hlt (hn.2.1 c hc))
          rw [h2] at h1
          simp [Memory.read] at h1
          exact absurd h1 hm.1
        · exact heq
        · have h1 := h b
          have h2 : Memory.read ((a, v) :: m) b = Config.blankByte := by
            apply Memory.read_of_forall_ne
            intro c hc
            rcases List.mem_cons.1 hc with rfl | hc
            · exact Nat.ne_of_gt hgt
            · exact Nat.ne_of_gt (Nat.lt_trans hgt (hm.2.1 c hc))
          rw [h2] at h1
          simp [Memory.read] at h1
          exact absurd h1.symm hn.1
      subst hab
      have hv : v = w := by simpa [Memory.read] using h a
      subst hv
      have : m = n := by
        apply ih n hm.2.2 hn.2.2
        intro k
        by_cases hk : a = k
        · subst hk
          rw [Memory.read_of_forall_ne m a (fun c hc => Nat.ne_of_gt (hm.2.1 c hc)),
            Memory.read_of_forall_ne n a (fun c hc => Nat.ne_of_gt (hn.2.1 c hc))]
        · simpa [Memory.read, hk] using h k
      rw [this]

end Sys2Proof.Machine
end

