-- ==== Sys2Proof/Laws/Bus.lean ====
section
/-! SUPPORT. What the bus leaves alone: a read writes at most IF, the input block, the cartridge link, the interconnect
table and the free-value counter; a write never touches the CPU registers, IME, `ei_pending`, the run state or the parameters, and
stores to no cell but those of `State.cellsWritten`. -/

namespace Sys2Proof.Machine

@[simp] theorem poll_regs (s : State) : (poll s).regs = s.regs := by
  simp [poll]
@[simp] theorem poll_ime (s : State) : (poll s).ime = s.ime := by
  simp [poll]
@[simp] theorem poll_eiPending (s : State) : (poll s).eiPending = s.eiPending := by
  simp [poll]
@[simp] theorem poll_run (s : State) : (poll s).run = s.run := by
  simp [poll]
@[simp] theorem poll_clock (s : State) : (poll s).clock = s.clock := by
  simp [poll]
@[simp] theorem poll_mem (s : State) : (poll s).mem = s.mem := by
  simp [poll]
@[simp] theorem poll_timer (s : State) : (poll s).timer = s.timer := by
  simp [poll]
@[simp] theorem poll_serial (s : State) : (poll s).serial = s.serial := by
  simp [poll]
@[simp] theorem poll_video (s : State) : (poll s).video = s.video := by
  simp [poll]
@[simp] theorem poll_frameBuffer (s : State) : (poll s).frameBuffer = s.frameBuffer := by
  simp [poll]
@[simp] theorem poll_params (s : State) : (poll s).params = s.params := by
  simp [poll]
@[simp] theorem poll_events (s : State) : (poll s).events = s.events := by
  simp [poll]
@[simp] theorem poll_slots (s : State) : (poll s).slots = s.slots := by
  simp [poll]
@[simp] theorem poll_draws (s : State) : (poll s).draws = s.draws := by
  simp [poll]
@[simp] theorem poll_cartridge (s : State) : (poll s).cartridge = s.cartridge := by
  simp [poll]
@[simp] theorem rebindIf_regs (f : Bool) (x y z : Word) (s : State) : (rebindIf f x y z s).regs = s.regs := by
  cases f <;> rfl
@[simp] theorem rebindIf_ime (f : Bool) (x y z : Word) (s : State) : (rebindIf f x y z s).ime = s.ime := by
  cases f <;> rfl
@[simp] theorem rebindIf_eiPending (f : Bool) (x y z : Word) (s : State) : (rebindIf f x y z s).eiPending = s.eiPending := by
  cases f <;> rfl
@[simp] theorem rebindIf_run (f : Bool) (x y z : Word) (s : State) : (rebindIf f x y z s).run = s.run := by
  cases f <;> rfl
@[simp] theorem rebindIf_clock (f : Bool) (x y z : Word) (s : State) : (rebindIf f x y z s).clock = s.clock := by
  cases f <;> rfl
@[simp] theorem rebindIf_mem (f : Bool) (x y z : Word) (s : State) : (rebindIf f x y z s).mem = s.mem := by
  cases f <;> rfl
@[simp] theorem rebindIf_timer (f : Bool) (x y z : Word) (s : State) : (rebindIf f x y z s).timer = s.timer := by
  cases f <;> rfl
@[simp] theorem rebindIf_serial (f : Bool) (x y z : Word) (s : State) : (rebindIf f x y z s).serial = s.serial := by
  cases f <;> rfl
@[simp] theorem rebindIf_video (f : Bool) (x y z : Word) (s : State) : (rebindIf f x y z s).video = s.video := by
  cases f <;> rfl
@[simp] theorem rebindIf_frameBuffer (f : Bool) (x y z : Word) (s : State) : (rebindIf f x y z s).frameBuffer = s.frameBuffer := by
  cases f <;> rfl
@[simp] theorem rebindIf_params (f : Bool) (x y z : Word) (s : State) : (rebindIf f x y z s).params = s.params := by
  cases f <;> rfl
@[simp] theorem rebindIf_events (f : Bool) (x y z : Word) (s : State) : (rebindIf f x y z s).events = s.events := by
  cases f <;> rfl
@[simp] theorem rebindIf_cartridge (f : Bool) (x y z : Word) (s : State) : (rebindIf f x y z s).cartridge = s.cartridge := by
  cases f <;> rfl
@[simp] theorem rebindIf_input (f : Bool) (x y z : Word) (s : State) : (rebindIf f x y z s).input = s.input := by
  cases f <;> rfl
@[simp] theorem rebindIf_draws (f : Bool) (x y z : Word) (s : State) : (rebindIf f x y z s).draws = s.draws := by
  cases f <;> rfl
@[simp] theorem rebindIf_irq (f : Bool) (x y z : Word) (s : State) : (rebindIf f x y z s).irq = s.irq := by
  cases f <;> rfl
@[simp] theorem agentRead_regs (a : Word) (s : State) : (agentRead a s).2.regs = s.regs := rfl
@[simp] theorem agentRead_ime (a : Word) (s : State) : (agentRead a s).2.ime = s.ime := rfl
@[simp] theorem agentRead_eiPending (a : Word) (s : State) : (agentRead a s).2.eiPending = s.eiPending := rfl
@[simp] theorem agentRead_run (a : Word) (s : State) : (agentRead a s).2.run = s.run := rfl
@[simp] theorem agentRead_clock (a : Word) (s : State) : (agentRead a s).2.clock = s.clock := rfl
@[simp] theorem agentRead_slots (a : Word) (s : State) : (agentRead a s).2.slots = s.slots := rfl
@[simp] theorem agentRead_mem (a : Word) (s : State) : (agentRead a s).2.mem = s.mem := rfl
@[simp] theorem agentRead_irq (a : Word) (s : State) : (agentRead a s).2.irq = s.irq := rfl
@[simp] theorem agentRead_timer (a : Word) (s : State) : (agentRead a s).2.timer = s.timer := rfl
@[simp] theorem agentRead_serial (a : Word) (s : State) : (agentRead a s).2.serial = s.serial := rfl
@[simp] theorem agentRead_video (a : Word) (s : State) : (agentRead a s).2.video = s.video := rfl
@[simp] theorem agentRead_frameBuffer (a : Word) (s : State) : (agentRead a s).2.frameBuffer = s.frameBuffer := rfl
@[simp] theorem agentRead_input (a : Word) (s : State) : (agentRead a s).2.input = s.input := rfl
@[simp] theorem agentRead_params (a : Word) (s : State) : (agentRead a s).2.params = s.params := rfl
@[simp] theorem agentRead_events (a : Word) (s : State) : (agentRead a s).2.events = s.events := rfl
@[simp] theorem agentRead_draws (a : Word) (s : State) : (agentRead a s).2.draws = s.draws := rfl
@[simp] theorem cartridgeWrite_regs (a : Word) (v : Byte) (s : State) : (cartridgeWrite a v s).regs = s.regs := by
  simp only [cartridgeWrite]; split <;> rfl
@[simp] theorem cartridgeWrite_ime (a : Word) (v : Byte) (s : State) : (cartridgeWrite a v s).ime = s.ime := by
  simp only [cartridgeWrite]; split <;> rfl
@[simp] theorem cartridgeWrite_eiPending (a : Word) (v : Byte) (s : State) : (cartridgeWrite a v s).eiPending = s.eiPending := by
  simp only [cartridgeWrite]; split <;> rfl
@[simp] theorem cartridgeWrite_run (a : Word) (v : Byte) (s : State) : (cartridgeWrite a v s).run = s.run := by
  simp only [cartridgeWrite]; split <;> rfl
@[simp] theorem cartridgeWrite_clock (a : Word) (v : Byte) (s : State) : (cartridgeWrite a v s).clock = s.clock := by
  simp only [cartridgeWrite]; split <;> rfl
@[simp] theorem cartridgeWrite_slots (a : Word) (v : Byte) (s : State) : (cartridgeWrite a v s).slots = s.slots := by
  simp only [cartridgeWrite]; split <;> rfl
@[simp] theorem cartridgeWrite_mem (a : Word) (v : Byte) (s : State) : (cartridgeWrite a v s).mem = s.mem := by
  simp only [cartridgeWrite]; split <;> rfl
@[simp] theorem cartridgeWrite_irq (a : Word) (v : Byte) (s : State) : (cartridgeWrite a v s).irq = s.irq := by
  simp only [cartridgeWrite]; split <;> rfl
@[simp] theorem cartridgeWrite_timer (a : Word) (v : Byte) (s : State) : (cartridgeWrite a v s).timer = s.timer := by
  simp only [cartridgeWrite]; split <;> rfl
@[simp] theorem cartridgeWrite_serial (a : Word) (v : Byte) (s : State) : (cartridgeWrite a v s).serial = s.serial := by
  simp only [cartridgeWrite]; split <;> rfl
@[simp] theorem cartridgeWrite_video (a : Word) (v : Byte) (s : State) : (cartridgeWrite a v s).video = s.video := by
  simp only [cartridgeWrite]; split <;> rfl
@[simp] theorem cartridgeWrite_frameBuffer (a : Word) (v : Byte) (s : State) : (cartridgeWrite a v s).frameBuffer = s.frameBuffer := by
  simp only [cartridgeWrite]; split <;> rfl
@[simp] theorem cartridgeWrite_input (a : Word) (v : Byte) (s : State) : (cartridgeWrite a v s).input = s.input := by
  simp only [cartridgeWrite]; split <;> rfl
@[simp] theorem cartridgeWrite_params (a : Word) (v : Byte) (s : State) : (cartridgeWrite a v s).params = s.params := by
  simp only [cartridgeWrite]; split <;> rfl
@[simp] theorem cartridgeWrite_events (a : Word) (v : Byte) (s : State) : (cartridgeWrite a v s).events = s.events := by
  simp only [cartridgeWrite]; split <;> rfl
@[simp] theorem cartridgeWrite_draws (a : Word) (v : Byte) (s : State) : (cartridgeWrite a v s).draws = s.draws := by
  simp only [cartridgeWrite]; split <;> rfl
@[simp] theorem deviceRead_regs (h : Handler) (a : Word) (s : State) : (deviceRead h a s).2.regs = s.regs := by
  cases h <;> simp [deviceRead, readP1, readSound]; split <;> simp
@[simp] theorem deviceRead_ime (h : Handler) (a : Word) (s : State) : (deviceRead h a s).2.ime = s.ime := by
  cases h <;> simp [deviceRead, readP1, readSound]; split <;> simp
@[simp] theorem deviceRead_eiPending (h : Handler) (a : Word) (s : State) : (deviceRead h a s).2.eiPending = s.eiPending := by
  cases h <;> simp [deviceRead, readP1, readSound]; split <;> simp
@[simp] theorem deviceRead_run (h : Handler) (a : Word) (s : State) : (deviceRead h a s).2.run = s.run := by
  cases h <;> simp [deviceRead, readP1, readSound]; split <;> simp
@[simp] theorem deviceRead_clock (h : Handler) (a : Word) (s : State) : (deviceRead h a s).2.clock = s.clock := by
  cases h <;> simp [deviceRead, readP1, readSound]; split <;> simp
@[simp] theorem deviceRead_mem (h : Handler) (a : Word) (s : State) : (deviceRead h a s).2.mem = s.mem := by
  cases h <;> simp [deviceRead, readP1, readSound]; split <;> simp
@[simp] theorem deviceRead_timer (h : Handler) (a : Word) (s : State) : (deviceRead h a s).2.timer = s.timer := by
  cases h <;> simp [deviceRead, readP1, readSound]; split <;> simp
@[simp] theorem deviceRead_serial (h : Handler) (a : Word) (s : State) : (deviceRead h a s).2.serial = s.serial := by
  cases h <;> simp [deviceRead, readP1, readSound]; split <;> simp
@[simp] theorem deviceRead_video (h : Handler) (a : Word) (s : State) : (deviceRead h a s).2.video = s.video := by
  cases h <;> simp [deviceRead, readP1, readSound]; split <;> simp
@[simp] theorem deviceRead_frameBuffer (h : Handler) (a : Word) (s : State) : (deviceRead h a s).2.frameBuffer = s.frameBuffer := by
  cases h <;> simp [deviceRead, readP1, readSound]; split <;> simp
@[simp] theorem deviceRead_params (h : Handler) (a : Word) (s : State) : (deviceRead h a s).2.params = s.params := by
  cases h <;> simp [deviceRead, readP1, readSound]; split <;> simp
@[simp] theorem deviceRead_events (h : Handler) (a : Word) (s : State) : (deviceRead h a s).2.events = s.events := by
  cases h <;> simp [deviceRead, readP1, readSound]; split <;> simp
@[simp] theorem busRead_regs (a : Word) (s : State) : (busRead a s).2.regs = s.regs := by
  simp only [busRead, handlerRead]; split <;> simp
@[simp] theorem busRead_ime (a : Word) (s : State) : (busRead a s).2.ime = s.ime := by
  simp only [busRead, handlerRead]; split <;> simp
@[simp] theorem busRead_eiPending (a : Word) (s : State) : (busRead a s).2.eiPending = s.eiPending := by
  simp only [busRead, handlerRead]; split <;> simp
@[simp] theorem busRead_run (a : Word) (s : State) : (busRead a s).2.run = s.run := by
  simp only [busRead, handlerRead]; split <;> simp
@[simp] theorem busRead_clock (a : Word) (s : State) : (busRead a s).2.clock = s.clock := by
  simp only [busRead, handlerRead]; split <;> simp
@[simp] theorem busRead_mem (a : Word) (s : State) : (busRead a s).2.mem = s.mem := by
  simp only [busRead, handlerRead]; split <;> simp
@[simp] theorem busRead_timer (a : Word) (s : State) : (busRead a s).2.timer = s.timer := by
  simp only [busRead, handlerRead]; split <;> simp
@[simp] theorem busRead_serial (a : Word) (s : State) : (busRead a s).2.serial = s.serial := by
  simp only [busRead, handlerRead]; split <;> simp
@[simp] theorem busRead_video (a : Word) (s : State) : (busRead a s).2.video = s.video := by
  simp only [busRead, handlerRead]; split <;> simp
@[simp] theorem busRead_frameBuffer (a : Word) (s : State) : (busRead a s).2.frameBuffer = s.frameBuffer := by
  simp only [busRead, handlerRead]; split <;> simp
@[simp] theorem busRead_params (a : Word) (s : State) : (busRead a s).2.params = s.params := by
  simp only [busRead, handlerRead]; split <;> simp
@[simp] theorem busRead_events (a : Word) (s : State) : (busRead a s).2.events = s.events := by
  simp only [busRead, handlerRead]; split <;> simp

@[simp] theorem dmaByte_regs (v : Byte) (i : Nat) (s : State) : (dmaByte v i s).regs = s.regs := by simp [dmaByte]
@[simp] theorem dmaCopy_regs (v : Byte) (n i : Nat) (s : State) : (dmaCopy v n i s).regs = s.regs := by
  induction n generalizing i s with
  | zero => rfl
  | succ n ih => simp [dmaCopy, ih]

@[simp] theorem dmaByte_ime (v : Byte) (i : Nat) (s : State) : (dmaByte v i s).ime = s.ime := by simp [dmaByte]
@[simp] theorem dmaCopy_ime (v : Byte) (n i : Nat) (s : State) : (dmaCopy v n i s).ime = s.ime := by
  induction n generalizing i s with
  | zero => rfl
  | succ n ih => simp [dmaCopy, ih]

@[simp] theorem dmaByte_eiPending (v : Byte) (i : Nat) (s : State) : (dmaByte v i s).eiPending = s.eiPending := by simp [dmaByte]
@[simp] theorem dmaCopy_eiPending (v : Byte) (n i : Nat) (s : State) : (dmaCopy v n i s).eiPending = s.eiPending := by
  induction n generalizing i s with
  | zero => rfl
  | succ n ih => simp [dmaCopy, ih]

@[simp] theorem dmaByte_run (v : Byte) (i : Nat) (s : State) : (dmaByte v i s).run = s.run := by simp [dmaByte]
@[simp] theorem dmaCopy_run (v : Byte) (n i : Nat) (s : State) : (dmaCopy v n i s).run = s.run := by
  induction n generalizing i s with
  | zero => rfl
  | succ n ih => simp [dmaCopy, ih]

@[simp] theorem dmaByte_clock (v : Byte) (i : Nat) (s : State) : (dmaByte v i s).clock = s.clock := by simp [dmaByte]
@[simp] theorem dmaCopy_clock (v : Byte) (n i : Nat) (s : State) : (dmaCopy v n i s).clock = s.clock := by
  induction n generalizing i s with
  | zero => rfl
  | succ n ih => simp [dmaCopy, ih]

@[simp] theorem dmaByte_timer (v : Byte) (i : Nat) (s : State) : (dmaByte v i s).timer = s.timer := by simp [dmaByte]
@[simp] theorem dmaCopy_timer (v : Byte) (n i : Nat) (s : State) : (dmaCopy v n i s).timer = s.timer := by
  induction n generalizing i s with
  | zero => rfl
  | succ n ih => simp [dmaCopy, ih]

@[simp] theorem dmaByte_serial (v : Byte) (i : Nat) (s : State) : (dmaByte v i s).serial = s.serial := by simp [dmaByte]
@[simp] theorem dmaCopy_serial (v : Byte) (n i : Nat) (s : State) : (dmaCopy v n i s).serial = s.serial := by
  induction n generalizing i s with
  | zero => rfl
  | succ n ih => simp [dmaCopy, ih]

@[simp] theorem dmaByte_video (v : Byte) (i : Nat) (s : State) : (dmaByte v i s).video = s.video := by simp [dmaByte]
@[simp] theorem dmaCopy_video (v : Byte) (n i : Nat) (s : State) : (dmaCopy v n i s).video = s.video := by
  induction n generalizing i s with
  | zero => rfl
  | succ n ih => simp [dmaCopy, ih]

@[simp] theorem dmaByte_frameBuffer (v : Byte) (i : Nat) (s : State) : (dmaByte v i s).frameBuffer = s.frameBuffer := by simp [dmaByte]
@[simp] theorem dmaCopy_frameBuffer (v : Byte) (n i : Nat) (s : State) : (dmaCopy v n i s).frameBuffer = s.frameBuffer := by
  induction n generalizing i s with
  | zero => rfl
  | succ n ih => simp [dmaCopy, ih]

@[simp] theorem dmaByte_params (v : Byte) (i : Nat) (s : State) : (dmaByte v i s).params = s.params := by simp [dmaByte]
@[simp] theorem dmaCopy_params (v : Byte) (n i : Nat) (s : State) : (dmaCopy v n i s).params = s.params := by
  induction n generalizing i s with
  | zero => rfl
  | succ n ih => simp [dmaCopy, ih]

@[simp] theorem dmaByte_events (v : Byte) (i : Nat) (s : State) : (dmaByte v i s).events = s.events := by simp [dmaByte]
@[simp] theorem dmaCopy_events (v : Byte) (n i : Nat) (s : State) : (dmaCopy v n i s).events = s.events := by
  induction n generalizing i s with
  | zero => rfl
  | succ n ih => simp [dmaCopy, ih]

@[simp] theorem oamDma_regs (v : Byte) (s : State) : (oamDma v s).regs = s.regs := by simp [oamDma]
@[simp] theorem writeLcdc_regs (v : Byte) (s : State) : (writeLcdc v s).regs = s.regs := by
  simp [writeLcdc, apply_ite State.regs]
@[simp] theorem writeVideo_regs (a : Word) (v : Byte) (s : State) : (writeVideo a v s).regs = s.regs := by
  simp [writeVideo, apply_ite State.regs]
@[simp] theorem busWrite_regs (a : Word) (v : Byte) (s : State) : (busWrite a v s).regs = s.regs := by
  simp only [busWrite, handlerWrite]
  split
  · simp
  · cases s.handler a <;> simp only [deviceWrite, writeP1, writeSerial, writeTimer, writeInterrupt, writeIF, writeIE,
      writeVideoRegister] <;> repeat' split
    all_goals simp
@[simp] theorem oamDma_ime (v : Byte) (s : State) : (oamDma v s).ime = s.ime := by simp [oamDma]
@[simp] theorem writeLcdc_ime (v : Byte) (s : State) : (writeLcdc v s).ime = s.ime := by
  simp [writeLcdc, apply_ite State.ime]
@[simp] theorem writeVideo_ime (a : Word) (v : Byte) (s : State) : (writeVideo a v s).ime = s.ime := by
  simp [writeVideo, apply_ite State.ime]
@[simp] theorem busWrite_ime (a : Word) (v : Byte) (s : State) : (busWrite a v s).ime = s.ime := by
  simp only [busWrite, handlerWrite]
  split
  · simp
  · cases s.handler a <;> simp only [deviceWrite, writeP1, writeSerial, writeTimer, writeInterrupt, writeIF, writeIE,
      writeVideoRegister] <;> repeat' split
    all_goals simp
@[simp] theorem oamDma_eiPending (v : Byte) (s : State) : (oamDma v s).eiPending = s.eiPending := by simp [oamDma]
@[simp] theorem writeLcdc_eiPending (v : Byte) (s : State) : (writeLcdc v s).eiPending = s.eiPending := by
  simp [writeLcdc, apply_ite State.eiPending]
@[simp] theorem writeVideo_eiPending (a : Word) (v : Byte) (s : State) : (writeVideo a v s).eiPending = s.eiPending := by
  simp [writeVideo, apply_ite State.eiPending]
@[simp] theorem busWrite_eiPending (a : Word) (v : Byte) (s : State) : (busWrite a v s).eiPending = s.eiPending := by
  simp only [busWrite, handlerWrite]
  split
  · simp
  · cases s.handler a <;> simp only [deviceWrite, writeP1, writeSerial, writeTimer, writeInterrupt, writeIF, writeIE,
      writeVideoRegister] <;> repeat' split
    all_goals simp
@[simp] theorem oamDma_run (v : Byte) (s : State) : (oamDma v s).run = s.run := by simp [oamDma]
@[simp] theorem writeLcdc_run (v : Byte) (s : State) : (writeLcdc v s).run = s.run := by
  simp [writeLcdc, apply_ite State.run]
@[simp] theorem writeVideo_run (a : Word) (v : Byte) (s : State) : (writeVideo a v s).run = s.run := by
  simp [writeVideo, apply_ite State.run]
@[simp] theorem busWrite_run (a : Word) (v : Byte) (s : State) : (busWrite a v s).run = s.run := by
  simp only [busWrite, handlerWrite]
  split
  · simp
  · cases s.handler a <;> simp only [deviceWrite, writeP1, writeSerial, writeTimer, writeInterrupt, writeIF, writeIE,
      writeVideoRegister] <;> repeat' split
    all_goals simp
@[simp] theorem oamDma_params (v : Byte) (s : State) : (oamDma v s).params = s.params := by simp [oamDma]
@[simp] theorem writeLcdc_params (v : Byte) (s : State) : (writeLcdc v s).params = s.params := by
  simp [writeLcdc, apply_ite State.params]
@[simp] theorem writeVideo_params (a : Word) (v : Byte) (s : State) : (writeVideo a v s).params = s.params := by
  simp [writeVideo, apply_ite State.params]
@[simp] theorem busWrite_params (a : Word) (v : Byte) (s : State) : (busWrite a v s).params = s.params := by
  simp only [busWrite, handlerWrite]
  split
  · simp
  · cases s.handler a <;> simp only [deviceWrite, writeP1, writeSerial, writeTimer, writeInterrupt, writeIF, writeIE,
      writeVideoRegister] <;> repeat' split
    all_goals simp

/-- A read of plain storage answers the stored byte and changes nothing. -/
theorem busRead_of_peek (a : Word) (s : State) (b : Byte) (h : s.peek a = some b) : busRead a s = (b, s) := by
  simp only [State.peek] at h
  simp [busRead, handlerRead, h]

/-- A cell of RAM is read as it is. -/
theorem storageRead_of_key (h : Handler) (a : Word) (s : State) (k : Nat) (hk : storageKey s.params.cart h a = some k) :
    storageRead h a s = some (s.mem.read k) := by
  cases h <;> first | exact congrArg (Option.map s.mem.read) hk | skip
  · simp [storageKey] at hk
  · simp only [storageKey, Option.ite_none_right_eq_some, Option.some.injEq] at hk
    obtain ⟨⟨h1, h2, h3⟩, rfl⟩ := hk
    simp [storageRead, cartridgeStored, h1, h2, h3]

/-- A read leaves IE alone. -/
@[simp] theorem poll_enable (s : State) : (poll s).irq.enable = s.irq.enable := by simp [poll]

@[simp] theorem busRead_enable (a : Word) (s : State) : (busRead a s).2.irq.enable = s.irq.enable := by
  simp only [busRead, handlerRead]
  split
  · rfl
  · cases s.handler a <;> simp [deviceRead, readP1, readSound]
    split <;> simp

/-- A read rebinds nothing unless a mapping triggers on reads. -/
theorem busRead_slots (a : Word) (s : State)
    (h : ∀ kind x y z, s.handler a = .triggered kind x y z → kind.onRead = false) :
    (busRead a s).2.slots = s.slots := by
  simp only [busRead, handlerRead]
  split
  · rfl
  · cases hh : s.handler a <;> simp [deviceRead, readP1, readSound]
    · split <;> simp
    · rw [h _ _ _ _ hh]; rfl

/-- With one of the maps of R62 no read rebinds (R74). -/
theorem busRead_slots_of_map (a : Word) (s : State) (h : s.slots = slotsWithCartridge ∨ s.slots = slotsWithBootRom) :
    (busRead a s).2.slots = s.slots := by
  apply busRead_slots
  intro kind x y z hh
  have := slot_triggered_of_map _ h _ _ _ _ _ hh
  simp only [lockout, Handler.triggered.injEq] at this
  rw [this.1]; rfl

@[simp] theorem writeVideo_mem (a : Word) (v : Byte) (s : State) : (writeVideo a v s).mem = s.mem := by
  simp [writeVideo, writeLcdc, apply_ite State.mem]

/-- One byte of the copy stores to one cell of OAM. -/
@[simp] theorem dmaByte_mem (v : Byte) (i : Nat) (s : State) :
    (dmaByte v i s).mem = s.mem.write (oamCell i) (busRead (joinBytes v 0x00 + BitVec.ofNat 16 i) s).1 := by
  simp [dmaByte]

/-- The copy leaves every cell outside its part of OAM alone. -/
theorem dmaCopy_mem_other (v : Byte) (n i : Nat) (s : State) (k : Nat)
    (h : ∀ j, i ≤ j → j < i + n → k ≠ oamCell j) : (dmaCopy v n i s).mem.read k = s.mem.read k := by
  induction n generalizing i s with
  | zero => rfl
  | succ n ih =>
    simp only [dmaCopy]
    rw [ih (i + 1) _ (fun j h1 h2 => h j (by omega) (by omega)), dmaByte_mem,
      Memory.read_write_other _ _ _ _ (h i (by omega) (by omega))]

/-- A write of the bus stores to no cell but those it names. -/
theorem busWrite_mem_other (a : Word) (v : Byte) (s : State) (k : Nat) (h : k ∉ s.cellsWritten a) :
    (busWrite a v s).mem.read k = s.mem.read k := by
  simp only [busWrite, handlerWrite]
  split
  · rename_i j hj
    have hk : k ≠ j := by simpa [State.cellsWritten, State.cellOf, hj] using h
    simp [Memory.read_write_other _ _ _ _ hk]
  · rename_i hn
    cases hh : s.handler a <;> simp only [deviceWrite, writeP1, writeSerial, writeTimer, writeInterrupt, writeIF,
      writeIE, writeVideoRegister] <;> (repeat' split) <;> try simp
    rename_i ha
    have hk : k ∉ (List.range oamSize).map oamCell := by
      have hw : s.cellsWritten a = (List.range oamSize).map oamCell := by
        rw [State.cellsWritten, State.cellOf, hn]
        exact if_pos ⟨hh, ha⟩
      rwa [hw] at h
    simp only [oamDma, tickN_mem]
    rw [dmaCopy_mem_other]
    · simp
    · intro j _ h2 he
      exact hk (List.mem_map.2 ⟨j, List.mem_range.2 (by simpa using h2), he.symm⟩)

/-- A write to RAM stores one byte and changes nothing else. -/
theorem busWrite_of_cell (a : Word) (v : Byte) (s : State) (k : Nat) (h : s.cellOf a = some k) :
    busWrite a v s = s.setMem (s.mem.write k v) := by
  simp only [State.cellOf] at h
  simp [busWrite, handlerWrite, h]

@[simp] theorem tick_handler (s : State) (a : Word) : (tick s).handler a = s.handler a := by simp [State.handler]

@[simp] theorem tick_cellOf (s : State) (a : Word) : (tick s).cellOf a = s.cellOf a := by simp [State.cellOf]

@[simp] theorem tick_cellsWritten (s : State) (a : Word) : (tick s).cellsWritten a = s.cellsWritten a := by
  simp [State.cellsWritten]

@[simp] theorem tick_peek (s : State) (a : Word) : (tick s).peek a = s.peek a := by
  simp only [State.peek, tick_handler]
  cases s.handler a <;> simp [storageRead, cartridgeStored, bootRomRead]

/-- A bus read neither sees nor touches the CPU registers. -/
theorem busRead_setRegs (a : Word) (s : State) (r : Regs) :
    busRead a (s.setRegs r) = ((busRead a s).1, (busRead a s).2.setRegs r) := by
  simp only [busRead, handlerRead]
  have h1 : storageRead ((s.setRegs r).handler a) a (s.setRegs r) = storageRead (s.handler a) a s := rfl
  have h2 : (s.setRegs r).handler a = s.handler a := rfl
  rw [h1, h2]
  split
  · rfl
  · cases s.handler a <;> try rfl
    · simp only [deviceRead]; split
      · simp only [readP1, poll, requestIf]; 
        have h3 : (s.setRegs r).pressSeen = s.pressSeen := rfl
        rw [h3]; split <;> rfl
      · rfl
    · simp only [deviceRead, rebindIf]; split <;> rfl

theorem dmaByte_setRegs (v : Byte) (i : Nat) (s : State) (r : Regs) :
    dmaByte v i (s.setRegs r) = (dmaByte v i s).setRegs r := by
  simp only [dmaByte, busRead_setRegs]; rfl

theorem dmaCopy_setRegs (v : Byte) (n i : Nat) (s : State) (r : Regs) :
    dmaCopy v n i (s.setRegs r) = (dmaCopy v n i s).setRegs r := by
  induction n generalizing i s with
  | zero => rfl
  | succ n ih => simp only [dmaCopy, dmaByte_setRegs, ih]

theorem tickN_setRegs (n : Nat) (s : State) (r : Regs) : tickN n (s.setRegs r) = (tickN n s).setRegs r := by
  induction n generalizing s with
  | zero => rfl
  | succ n ih => simp only [tickN, tick_setRegs, ih]

theorem ite_setRegs (c : Prop) [Decidable c] (s t : State) (r : Regs) :
    (if c then s.setRegs r else t.setRegs r) = (if c then s else t).setRegs r := by split <;> rfl

theorem writeLcdc_setRegs (v : Byte) (s : State) (r : Regs) : writeLcdc v (s.setRegs r) = (writeLcdc v s).setRegs r := by
  simp only [writeLcdc, ← ite_setRegs, ← compareLy_setRegs]
  rfl

theorem writeVideo_setRegs (a : Word) (v : Byte) (s : State) (r : Regs) :
    writeVideo a v (s.setRegs r) = (writeVideo a v s).setRegs r := by
  simp only [writeVideo, ← ite_setRegs, ← compareLy_setRegs, writeLcdc_setRegs]
  rfl

/-- A bus write neither sees nor touches the CPU registers. -/
theorem busWrite_setRegs (a : Word) (v : Byte) (s : State) (r : Regs) :
    busWrite a v (s.setRegs r) = (busWrite a v s).setRegs r := by
  simp only [busWrite, handlerWrite]
  have h1 : storageKey (s.setRegs r).params.cart ((s.setRegs r).handler a) a =
    storageKey s.params.cart (s.handler a) a := rfl
  have h2 : (s.setRegs r).handler a = s.handler a := rfl
  rw [h1, h2]
  split
  · rfl
  · cases s.handler a <;> simp only [deviceWrite, cartridgeWrite, writeP1, writeSerial, writeTimer, writeInterrupt,
      writeVideoRegister, rebindIf]
    case cartridge =>
      have : (s.setRegs r).params = s.params := rfl
      rw [this]; split <;> rfl
    case videoRegisters =>
      split
      · simp only [oamDma]
        rw [show (s.setRegs r).setVideo { (s.setRegs r).video with dma := v } =
          (s.setVideo { s.video with dma := v }).setRegs r from rfl, dmaCopy_setRegs, tickN_setRegs]; rfl
      · exact writeVideo_setRegs _ _ _ _
    all_goals (repeat' split) <;> rfl

end Sys2Proof.Machine
end

