-- ==== Sys2Proof/Laws/Ops.lean ====
section
/-! SUPPORT. What the shared operations of the instructions change: one lemma per field. -/

namespace Sys2Proof.Machine

@[simp] theorem memRead_regs (a : Word) (s : State) : (memRead a s).2.regs = s.regs := by simp [memRead]
@[simp] theorem memRead_ime (a : Word) (s : State) : (memRead a s).2.ime = s.ime := by simp [memRead]
@[simp] theorem memRead_eiPending (a : Word) (s : State) : (memRead a s).2.eiPending = s.eiPending := by simp [memRead]
@[simp] theorem memRead_run (a : Word) (s : State) : (memRead a s).2.run = s.run := by simp [memRead]
@[simp] theorem memRead_mem (a : Word) (s : State) : (memRead a s).2.mem = s.mem := by simp [memRead]
@[simp] theorem memRead_params (a : Word) (s : State) : (memRead a s).2.params = s.params := by simp [memRead]

/-- A read costs one machine cycle (R13). -/
@[simp] theorem memRead_clock (a : Word) (s : State) : (memRead a s).2.clock = s.clock + 4 := by simp [memRead]

@[simp] theorem memRead_enable (a : Word) (s : State) : (memRead a s).2.irq.enable = s.irq.enable := by
  simp [memRead]

@[simp] theorem memRead_reg8 (a : Word) (s : State) (r : Reg8) : (memRead a s).2.reg8 r = s.reg8 r := by
  simp [State.reg8]

@[simp] theorem memRead_pair (a : Word) (s : State) (p : Pair) : (memRead a s).2.pair p = s.pair p := by
  simp [State.pair]

@[simp] theorem memRead_hl (a : Word) (s : State) : (memRead a s).2.hl = s.hl := by simp [State.hl]

/-- A read of plain storage answers the stored byte; only the clock and the peripherals move. -/
theorem memRead_of_peek (a : Word) (s : State) (b : Byte) (h : s.peek a = some b) : memRead a s = (b, tick s) := by
  simp [memRead, busRead_of_peek a (tick s) b (by simpa using h)]

@[simp] theorem memWrite_regs (a : Word) (v : Byte) (s : State) : (memWrite a v s).regs = s.regs := by simp [memWrite]
@[simp] theorem memWrite_ime (a : Word) (v : Byte) (s : State) : (memWrite a v s).ime = s.ime := by simp [memWrite]
@[simp] theorem memWrite_eiPending (a : Word) (v : Byte) (s : State) : (memWrite a v s).eiPending = s.eiPending := by simp [memWrite]
@[simp] theorem memWrite_run (a : Word) (v : Byte) (s : State) : (memWrite a v s).run = s.run := by simp [memWrite]
@[simp] theorem memWrite_params (a : Word) (v : Byte) (s : State) : (memWrite a v s).params = s.params := by simp [memWrite]

@[simp] theorem memWrite_reg8 (a : Word) (v : Byte) (s : State) (r : Reg8) : (memWrite a v s).reg8 r = s.reg8 r := by
  simp [State.reg8]

@[simp] theorem memWrite_pair (a : Word) (v : Byte) (s : State) (p : Pair) : (memWrite a v s).pair p = s.pair p := by
  simp [State.pair]

@[simp] theorem memWrite_hl (a : Word) (v : Byte) (s : State) : (memWrite a v s).hl = s.hl := by simp [State.hl]

/-- A store changes no cell but those `State.cellsWritten` names. -/
theorem memWrite_mem_other (a : Word) (v : Byte) (s : State) (k : Nat) (h : k ∉ s.cellsWritten a) :
    (memWrite a v s).mem.read k = s.mem.read k := by
  simp only [memWrite]
  rw [busWrite_mem_other _ _ _ _ (by simpa using h), tick_mem]

/-- A store to RAM. -/
theorem memWrite_of_cell (a : Word) (v : Byte) (s : State) (k : Nat) (h : s.cellOf a = some k) :
    memWrite a v s = (tick s).setMem (s.mem.write k v) := by
  simp [memWrite, busWrite_of_cell a v (tick s) k (by simpa using h)]

/-- A store to RAM costs one machine cycle. -/
theorem memWrite_clock_of_cell (a : Word) (v : Byte) (s : State) (k : Nat) (h : s.cellOf a = some k) :
    (memWrite a v s).clock = s.clock + 4 := by simp [memWrite_of_cell a v s k h]

@[simp] theorem fetch8_ime (s : State) : (fetch8 s).2.ime = s.ime := by simp [fetch8]
@[simp] theorem pop8_ime (s : State) : (pop8 s).2.ime = s.ime := by simp [pop8]
@[simp] theorem pop16_ime (s : State) : (pop16 s).2.ime = s.ime := by simp [pop16]
@[simp] theorem fetch8_eiPending (s : State) : (fetch8 s).2.eiPending = s.eiPending := by simp [fetch8]
@[simp] theorem pop8_eiPending (s : State) : (pop8 s).2.eiPending = s.eiPending := by simp [pop8]
@[simp] theorem pop16_eiPending (s : State) : (pop16 s).2.eiPending = s.eiPending := by simp [pop16]
@[simp] theorem fetch8_run (s : State) : (fetch8 s).2.run = s.run := by simp [fetch8]
@[simp] theorem pop8_run (s : State) : (pop8 s).2.run = s.run := by simp [pop8]
@[simp] theorem pop16_run (s : State) : (pop16 s).2.run = s.run := by simp [pop16]
@[simp] theorem fetch8_mem (s : State) : (fetch8 s).2.mem = s.mem := by simp [fetch8]
@[simp] theorem pop8_mem (s : State) : (pop8 s).2.mem = s.mem := by simp [pop8]
@[simp] theorem pop16_mem (s : State) : (pop16 s).2.mem = s.mem := by simp [pop16]
@[simp] theorem fetch8_params (s : State) : (fetch8 s).2.params = s.params := by simp [fetch8]
@[simp] theorem pop8_params (s : State) : (pop8 s).2.params = s.params := by simp [pop8]
@[simp] theorem pop16_params (s : State) : (pop16 s).2.params = s.params := by simp [pop16]
@[simp] theorem push8_ime (v : Byte) (s : State) : (push8 v s).ime = s.ime := by simp [push8]
@[simp] theorem push16_ime (v : Word) (s : State) : (push16 v s).ime = s.ime := by simp [push16]
@[simp] theorem modifyHL_ime (g : Byte → Flags → Alu8) (s : State) : (modifyHL g s).ime = s.ime := by simp [modifyHL]
@[simp] theorem push8_eiPending (v : Byte) (s : State) : (push8 v s).eiPending = s.eiPending := by simp [push8]
@[simp] theorem push16_eiPending (v : Word) (s : State) : (push16 v s).eiPending = s.eiPending := by simp [push16]
@[simp] theorem modifyHL_eiPending (g : Byte → Flags → Alu8) (s : State) : (modifyHL g s).eiPending = s.eiPending := by simp [modifyHL]
@[simp] theorem push8_run (v : Byte) (s : State) : (push8 v s).run = s.run := by simp [push8]
@[simp] theorem push16_run (v : Word) (s : State) : (push16 v s).run = s.run := by simp [push16]
@[simp] theorem modifyHL_run (g : Byte → Flags → Alu8) (s : State) : (modifyHL g s).run = s.run := by simp [modifyHL]
@[simp] theorem push8_params (v : Byte) (s : State) : (push8 v s).params = s.params := by simp [push8]
@[simp] theorem push16_params (v : Word) (s : State) : (push16 v s).params = s.params := by simp [push16]
@[simp] theorem modifyHL_params (g : Byte → Flags → Alu8) (s : State) : (modifyHL g s).params = s.params := by simp [modifyHL]

/-- `Fetch8()` advances PC by one (R14). -/
@[simp] theorem fetch8_regs (s : State) : (fetch8 s).2.regs = { s.regs with pc := s.regs.pc + 1 } := by simp [fetch8]

@[simp] theorem fetch8_clock (s : State) : (fetch8 s).2.clock = s.clock + 4 := by simp [fetch8]

@[simp] theorem pop8_regs (s : State) : (pop8 s).2.regs = { s.regs with sp := s.regs.sp + 1 } := by simp [pop8]

@[simp] theorem pop8_clock (s : State) : (pop8 s).2.clock = s.clock + 4 := by simp [pop8]

theorem Word.sub_one_one (v : Word) : v - 1#16 - 1#16 = v - 2#16 := by bv_omega

theorem Word.add_one_one (v : Word) : v + 1#16 + 1#16 = v + 2#16 := by bv_omega

theorem Word.sub_two_add_one (v : Word) : v - 2#16 + 1#16 = v - 1#16 := by bv_omega

theorem Word.sub_one_add_one (v : Word) : v - 1#16 + 1#16 = v := by bv_omega

/-- A pop leaves SP two higher (R15). -/
@[simp] theorem pop16_regs (s : State) : (pop16 s).2.regs = { s.regs with sp := s.regs.sp + 2 } := by
  simp [pop16, Word.add_one_one]

@[simp] theorem pop16_clock (s : State) : (pop16 s).2.clock = s.clock + 8 := by simp [pop16]

@[simp] theorem push8_regs (v : Byte) (s : State) : (push8 v s).regs = { s.regs with sp := s.regs.sp - 1 } := by
  simp [push8]

/-- A push leaves SP two lower (R15). -/
@[simp] theorem push16_regs (v : Word) (s : State) : (push16 v s).regs = { s.regs with sp := s.regs.sp - 2 } := by
  simp [push16, Word.sub_one_one]

/-- A read-modify-write at HL changes no register but F. -/
theorem modifyHL_regs (g : Byte → Flags → Alu8) (s : State) :
    (modifyHL g s).regs = { s.regs with f := (g (memRead s.hl s).1 s.regs.f).flags } := by simp [modifyHL]

/-- `Fetch8()` from plain storage. -/
theorem fetch8_of_peek (s : State) (b : Byte) (h : s.peek s.regs.pc = some b) :
    fetch8 s = (b, (tick s).setPc (s.regs.pc + 1)) := by simp [fetch8, memRead_of_peek _ _ _ h]

end Sys2Proof.Machine
end

