-- ==== Sys2Proof/Laws/Exec.lean ====
section
/-! SUPPORT. The meaning of an instruction read off its form: `exec_eq_execForm` turns a statement about the rows of
a form into one about the shared operation of that form. -/

namespace Sys2Proof.Machine

/-- The shared meaning of a form. -/
def execForm (f : Form) (s : State) : Result :=
  match f with
  | .ldRR d r => ldRR d r s
  | .ldRN d n => ldRN d n s
  | .ldRHL d => loadFrom d (.pair .HL) s
  | .ldHLR r => storeTo (.pair .HL) (s.reg8 r) s
  | .ldHLN n => storeTo (.pair .HL) n s
  | .ldABC => loadFrom .A (.pair .BC) s
  | .ldADE => loadFrom .A (.pair .DE) s
  | .ldBCA => storeTo (.pair .BC) s.regs.a s
  | .ldDEA => storeTo (.pair .DE) s.regs.a s
  | .ldANN nn => loadFrom .A (.abs nn) s
  | .ldNNA nn => storeTo (.abs nn) s.regs.a s
  | .ldAC => loadFrom .A .pageC s
  | .ldCA => storeTo .pageC s.regs.a s
  | .ldAN n => loadFrom .A (.page n) s
  | .ldNA n => storeTo (.page n) s.regs.a s
  | .ldAHLI => loadFrom .A .hlInc s
  | .ldAHLD => loadFrom .A .hlDec s
  | .ldHLIA => storeTo .hlInc s.regs.a s
  | .ldHLDA => storeTo .hlDec s.regs.a s
  | .ldPairNN p nn => ldPairNN p nn s
  | .ldSPHL => ldSPHL s
  | .ldNNSP nn => ldNNSP nn s
  | .ldhlSPE e => ldhlSPE e s
  | .push p => pushPair p s
  | .pop p => popPair p s
  | .popAF => popPair .AF s
  | .aluR op r => aluWith op (.reg r) s
  | .aluHL op => aluWith op .atHL s
  | .aluN op n => aluWith op (.imm n) s
  | .incR r => stepReg inc8 r s
  | .incHL => .next (modifyHL inc8 s)
  | .decR r => stepReg dec8 r s
  | .decHL => .next (modifyHL dec8 s)
  | .addHLPair p => addHLPair p s
  | .addSPE e => addSPE e s
  | .incPair p => stepPair p 1 s
  | .decPair p => stepPair p (-1) s
  | .rlca => rotateA .rlc s
  | .rla => rotateA .rl s
  | .rrca => rotateA .rrc s
  | .rra => rotateA .rr s
  | .shiftR op r => shiftR op r s
  | .shiftHL op => shiftHL op s
  | .bitR b r => bitR b r s
  | .bitHL b => bitHL b s
  | .resR b r => resR b r s
  | .resHL b => resHL b s
  | .setR b r => setR b r s
  | .setHL b => setHL b s
  | .jpNN nn => .next (jumpTo nn s)
  | .jpCC cc nn => jumpIf cc nn s
  | .jpHL => .next (s.setPc s.hl)
  | .jrE e => .next (jumpTo (relativeTarget e s) s)
  | .jrCC cc e => jumpIf cc (relativeTarget e s) s
  | .callNN nn => .next (callTo nn s)
  | .callCC cc nn => callIf cc nn s
  | .ret => .next (returnPc s)
  | .retCC cc => returnIf cc s
  | .reti => .next (returnFromInterrupt s)
  | .rst t => .next (callTo (restartTarget t) s)
  | .nop => exec_nop s
  | .daa => exec_daa s
  | .cpl => exec_cpl s
  | .ccf => exec_ccf s
  | .scf => exec_scf s
  | .di => exec_di s
  | .ei => exec_ei s
  | .halt => exec_halt s
  | .stop => exec_stop s
  | .undefined op => undefinedOpcode op s

/-- Every instruction means what its form means. -/
theorem exec_eq_execForm (i : Instr) (s : State) : exec i s = execForm i.form s := by
  cases i <;> rfl

/-- The same, from a form known to be the instruction's. -/
theorem exec_of_form {i : Instr} {f : Form} (h : i.form = f) (s : State) : exec i s = execForm f s := by
  rw [← h, exec_eq_execForm]

/-- No instruction faults or refuses: every meaning answers a next state. -/
theorem execForm_next (f : Form) (s : State) : ∃ t, execForm f s = .next t := by
  cases f <;> exact ⟨_, rfl⟩

end Sys2Proof.Machine
end

