-- ==== Sys2Proof/Laws/Invariant.lean ====
section
/-! SUPPORT. The shared operations keep the invariant `State.Inv`. -/

namespace Sys2Proof.Machine

/-- The serial controller's part of the invariant (R355). -/
structure Serial.Ok (c : Serial) : Prop where
  acc : c.acc < serialPeriod
  bits : c.bitCount ≤ serialBits
  running : c.running = true → c.bitCount < serialBits

/-- The video controller's part (R365, R374). -/
structure Video.Ok (v : Video) : Prop where
  cycle : v.frameCycle < frameCycles
  off : v.displayOn = false → v.frameCycle = 0

/-- The frame buffer's part (R376). -/
structure FrameOk (m : Memory) : Prop where
  canonical : m.wf = true
  pixels : ∀ c ∈ m, framePixel c = true

/-- The storage's part (R38). -/
structure MemOk (cart : CartKind) (m : Memory) : Prop where
  canonical : m.wf = true
  cells : ∀ c ∈ m, storageAddress cart c.1 = true

/-- The interconnect's part (R60, R62). -/
def SlotsOk (t : SlotTable) (p : Params) : Prop :=
  t = slotsWithCartridge ∨ (t = slotsWithBootRom ∧ p.bootRom.isSome = true)

/-- The invariant by parts. -/
theorem State.inv_iff (s : State) :
    s.Inv ↔ MemOk s.params.cart s.mem ∧ FrameOk s.frameBuffer ∧ SlotsOk s.slots s.params ∧ s.video.Ok ∧ s.serial.Ok ∧
      s.clock % 4 = 0 ∧ s.run.legal = true := by
  constructor
  · intro h
    exact ⟨⟨h.memCanonical, h.memCells⟩, ⟨h.frameCanonical, h.framePixels⟩, h.slots, ⟨h.frameCycle, h.displayOff⟩,
      ⟨h.serialAcc, h.bitCountRange, h.bitCountRunning⟩, h.clockCycles, h.runLegal⟩
  · rintro ⟨⟨h1, h2⟩, ⟨h3, h4⟩, h5, ⟨h6, h7⟩, ⟨h8, h9, h10⟩, h11, h12⟩
    exact ⟨h1, h2, h3, h4, h5, h6, h7, h8, h9, h10, h11, h12⟩

theorem SlotsOk.map {t : SlotTable} {p : Params} (h : SlotsOk t p) : t = slotsWithCartridge ∨ t = slotsWithBootRom :=
  h.imp id And.left

/-- One T-state keeps the serial controller's ranges. -/
theorem Serial.Ok.step {c : Serial} (h : c.Ok) : c.step.Ok := by
  obtain ⟨h1, h2, h3⟩ := h
  have hacc : (if c.ticks = true then 0 else c.acc + 1) < serialPeriod := by
    by_cases ht : c.ticks = true
    · simp [ht, serialPeriod]
    · simp only [ht]
      simp only [Serial.ticks, beq_iff_eq, serialPeriod] at ht h1 ⊢
      simp only [Bool.false_eq_true, ↓reduceIte]
      omega
  simp only [Serial.step]
  by_cases hc : c.completes = true
  · simp only [hc, ↓reduceIte]
    refine ⟨hacc, ?_, fun h => by simp [Serial.complete] at h⟩
    simp only [Serial.completes, Serial.shifts, Bool.and_eq_true, beq_iff_eq] at hc
    simp only [Serial.complete, Serial.shift]
    omega
  · simp only [hc]
    by_cases hs : c.shifts = true
    · simp only [hs, ↓reduceIte]
      have hr : c.running = true := by
        simp only [Serial.shifts, Bool.and_eq_true] at hs
        exact hs.1.2
      have hb := h3 hr
      have hne : c.bitCount + 1 ≠ serialBits := by
        intro he
        apply hc
        simp [Serial.completes, hs, he]
      refine ⟨hacc, ?_, fun _ => ?_⟩ <;> simp only [Serial.shift] <;>
        simp only [Bool.false_eq_true, ↓reduceIte] <;> omega
    · simp only [hs]
      exact ⟨hacc, h2, h3⟩

@[simp] theorem compareLy_video (s : State) :
    (compareLy s).video = { s.video with lycEq := s.video.ly == s.video.lyc } := by simp [compareLy]

/-- What a T-state leaves in the video controller: the compare flag may change, and the frame counter advances while
the display is enabled. -/
theorem videoStep_video (s : State) : ∃ eq, (videoStep s).video =
    { s.video with
      lycEq := eq
      frameCycle := if s.video.displayOn then (s.video.frameCycle + 1) % frameCycles else s.video.frameCycle } := by
  by_cases h : s.video.displayOn = true
  · simp only [videoStep, h, ↓reduceIte, enterVblank_video, enterHblank_video, enterOamRead_video, newScanline]
    split
    · exact ⟨_, by simp; rfl⟩
    · exact ⟨s.video.lycEq, by simp⟩
  · exact ⟨s.video.lycEq, by simp [videoStep, h]⟩

theorem Video.Ok.step {s : State} (h : s.video.Ok) : (videoStep s).video.Ok := by
  obtain ⟨eq, he⟩ := videoStep_video s
  rw [he]
  refine ⟨?_, fun hoff => ?_⟩
  · simp only
    split
    · exact Nat.mod_lt _ (by decide)
    · exact h.cycle
  · have hoff' : s.video.displayOn = false := hoff
    simpa [hoff'] using h.off hoff'

/-- A rendered pixel is one of the four colours (R373, R376). -/
theorem renderPixel_lt (s : State) (y x : Nat) : (renderPixel s y x).toNat < 4 := by
  simp only [renderPixel]
  split
  · simp only [BitVec.toNat_setWidth]
    exact Nat.lt_of_le_of_lt (Nat.mod_le _ _) (BitVec.isLt _)
  · decide

theorem renderPixels_ok (s : State) (y : Nat) (hy : y < 144) (h : FrameOk s.frameBuffer) (n : Nat) (hn : n ≤ lineWidth) :
    FrameOk (renderPixels s y n) := by
  induction n with
  | zero => exact h
  | succ n ih =>
    have ih := ih (Nat.le_of_succ_le hn)
    refine ⟨Memory.wf_write _ _ _ ih.canonical, Memory.cells_write (fun c => framePixel c = true) _ _ _ ih.pixels ?_⟩
    simp only [framePixel, Bool.and_eq_true, decide_eq_true_eq]
    refine ⟨?_, renderPixel_lt s y n⟩
    have hn' : n < 160 := hn
    simp only [pixelCell, lineWidth]
    omega

theorem FrameOk.step {s : State} (h : FrameOk s.frameBuffer) : FrameOk (videoStep s).frameBuffer := by
  simp only [videoStep]
  split
  · simp only [enterVblank_frameBuffer, enterHblank]
    split
    · rename_i hc
      simp only [requestIf_frameBuffer, renderLine, State.setFrameBuffer_frameBuffer]
      apply renderPixels_ok
      · have hlt := hc.1
        simp only [Video.ly, lineCycles, activeCycles, BitVec.toNat_ofNat] at hlt ⊢
        exact Nat.lt_of_le_of_lt (Nat.mod_le _ _) (by omega)
      · simpa using h
      · exact Nat.le_refl _
    · simpa using h
  · exact h

theorem tState_inv {s : State} (h : s.Inv) : (tState s).Inv := by
  rw [State.inv_iff] at *
  obtain ⟨h1, h2, h3, h4, h5, h6, h7⟩ := h
  refine ⟨by simpa using h1, ?_, by simpa using h3, ?_, ?_, by simpa using h6, by simpa using h7⟩
  · exact FrameOk.step (by simpa using h2)
  · exact Video.Ok.step (by simpa using h4)
  · simpa using h5.step

theorem setClock_inv {s : State} (h : s.Inv) : (s.setClock (s.clock + 4)).Inv := by
  rw [State.inv_iff] at *
  obtain ⟨h1, h2, h3, h4, h5, h6, h7⟩ := h
  exact ⟨h1, h2, h3, h4, h5, by simp only [State.setClock_clock]; omega, h7⟩

/-- `Tick()` keeps the invariant. -/
theorem tick_inv {s : State} (h : s.Inv) : (tick s).Inv :=
  tState_inv (tState_inv (tState_inv (tState_inv (setClock_inv h))))

theorem tickN_inv (n : Nat) {s : State} (h : s.Inv) : (tickN n s).Inv := by
  induction n generalizing s with
  | zero => exact h
  | succ n ih => exact ih (tick_inv h)

/-- The invariant reads neither the registers, IME, `ei_pending`, IF, IE, the timer, the input block, the cartridge link, the events nor
the counter of free values. -/
theorem inv_congr {s t : State} (hm : t.mem = s.mem) (hf : t.frameBuffer = s.frameBuffer) (hs : t.slots = s.slots)
    (hp : t.params = s.params) (hv : t.video = s.video) (hc : t.serial = s.serial) (hk : t.clock = s.clock)
    (hr : t.run = s.run) (h : s.Inv) : t.Inv := by
  rw [State.inv_iff] at *
  rw [hm, hf, hs, hp, hv, hc, hk, hr]
  exact h

theorem setRegs_inv {s : State} (x : Regs) (h : s.Inv) : (s.setRegs x).Inv :=
  inv_congr (s := s) rfl rfl rfl rfl rfl rfl rfl rfl h

theorem setIme_inv {s : State} (x : Bool) (h : s.Inv) : (s.setIme x).Inv :=
  inv_congr (s := s) rfl rfl rfl rfl rfl rfl rfl rfl h

theorem setEiPending_inv {s : State} (x : Bool) (h : s.Inv) : (s.setEiPending x).Inv :=
  inv_congr (s := s) rfl rfl rfl rfl rfl rfl rfl rfl h

theorem setIrq_inv {s : State} (x : Irq) (h : s.Inv) : (s.setIrq x).Inv :=
  inv_congr (s := s) rfl rfl rfl rfl rfl rfl rfl rfl h

theorem setRun_inv {s : State} (x : RunState) (hx : x.legal = true) (h : s.Inv) : (s.setRun x).Inv := by
  rw [State.inv_iff] at *
  obtain ⟨h1, h2, h3, h4, h5, h6, _⟩ := h
  exact ⟨h1, h2, h3, h4, h5, h6, hx⟩

theorem setMem_inv {s : State} (m : Memory) (hm : MemOk s.params.cart m) (h : s.Inv) : (s.setMem m).Inv := by
  rw [State.inv_iff] at *
  exact ⟨hm, h.2⟩

theorem setVideo_inv {s : State} (v : Video) (hv : v.Ok) (h : s.Inv) : (s.setVideo v).Inv := by
  rw [State.inv_iff] at *
  obtain ⟨h1, h2, h3, _, h5, h6, h7⟩ := h
  exact ⟨h1, h2, h3, hv, h5, h6, h7⟩

theorem setSerial_inv {s : State} (c : Serial) (hc : c.Ok) (h : s.Inv) : (s.setSerial c).Inv := by
  rw [State.inv_iff] at *
  obtain ⟨h1, h2, h3, h4, _, h6, h7⟩ := h
  exact ⟨h1, h2, h3, h4, hc, h6, h7⟩

/-- A bus read keeps the invariant. -/
theorem busRead_inv {s : State} (a : Word) (h : s.Inv) : (busRead a s).2.Inv := by
  have hs := busRead_slots_of_map a s (SlotsOk.map ((State.inv_iff s).1 h).2.2.1)
  exact inv_congr (by simp) (by simp) hs (by simp) (by simp) (by simp) (by simp) (by simp) h

/-- The cells that RAM handlers name are storage. -/
theorem storageKey_address (cart : CartKind) (hd : Handler) (a : Word) (k : Nat) (h : storageKey cart hd a = some k) :
    storageAddress cart k = true := by
  cases hd <;> simp only [storageKey] at h <;> (repeat' split at h) <;> try simp at h
  all_goals
    subst h
    rename_i hk
    try (obtain ⟨rfl, hk⟩ := hk)
    simp only [storageAddress, cartridgeAddress, Bool.or_eq_true, Bool.and_eq_true, decide_eq_true_eq]
    omega

theorem MemOk.write {cart : CartKind} {m : Memory} (h : MemOk cart m) (k : Nat) (v : Byte)
    (hk : storageAddress cart k = true) : MemOk cart (m.write k v) :=
  ⟨Memory.wf_write _ _ _ h.canonical, Memory.cells_write (fun c => storageAddress cart c.1 = true) _ _ _ h.cells hk⟩

theorem dmaCopy_inv (v : Byte) (n i : Nat) (hn : i + n ≤ oamSize) {s : State} (h : s.Inv) : (dmaCopy v n i s).Inv := by
  induction n generalizing i s with
  | zero => exact h
  | succ n ih =>
    apply ih (i + 1) (by omega)
    simp only [dmaByte]
    apply setMem_inv _ _ (busRead_inv _ h)
    apply MemOk.write ((State.inv_iff _).1 (busRead_inv _ h)).1
    have hi : i < 160 := Nat.lt_of_lt_of_le (by omega) hn
    simp only [storageAddress, Bool.or_eq_true, Bool.and_eq_true, decide_eq_true_eq]
    simp only [oamCell]
    omega

theorem oamDma_inv (v : Byte) {s : State} (h : s.Inv) : (oamDma v s).Inv :=
  tickN_inv _ (dmaCopy_inv _ _ _ (Nat.le_of_eq (Nat.zero_add _)) (setVideo_inv _ ⟨h.frameCycle, h.displayOff⟩ h))

theorem compareLy_inv {s : State} (h : s.Inv) : (compareLy s).Inv := by
  refine inv_congr (s := s.setVideo { s.video with lycEq := s.video.ly == s.video.lyc }) (by simp) (by simp) (by simp)
    (by simp) (by simp) (by simp) (by simp) (by simp) (setVideo_inv _ ⟨h.frameCycle, h.displayOff⟩ h)

theorem writeLcdc_inv (v : Byte) {s : State} (h : s.Inv) : (writeLcdc v s).Inv := by
  have hcyc : 0 < frameCycles := by decide
  simp only [writeLcdc]
  split
  · apply compareLy_inv
    apply inv_congr (s := s.setVideo { s.video with lcdc := v, frameCycle := 0 }) rfl rfl rfl rfl rfl rfl rfl rfl
    exact setVideo_inv _ ⟨hcyc, fun _ => rfl⟩ h
  · split
    · apply inv_congr (s := s.setVideo { s.video with lcdc := v, frameCycle := 0 }) rfl rfl rfl rfl rfl rfl rfl rfl
      exact setVideo_inv _ ⟨hcyc, fun _ => rfl⟩ h
    · rename_i h1 h2
      refine setVideo_inv _ ⟨h.frameCycle, fun hoff => h.displayOff ?_⟩ h
      have hv : v.getLsbD 7 = false := hoff
      simp only [hv, Bool.not_false, Bool.and_true] at h1
      simpa using h1

theorem inv_ite {c : Prop} [Decidable c] {x y : State} (hx : x.Inv) (hy : y.Inv) : (if c then x else y).Inv := by
  split
  · exact hx
  · exact hy

theorem writeVideo_inv (a : Word) (v : Byte) {s : State} (h : s.Inv) : (writeVideo a v s).Inv := by
  have hx : ∀ w : Video, w.lcdc = s.video.lcdc → w.frameCycle = s.video.frameCycle → (s.setVideo w).Inv := by
    intro w h1 h2
    refine setVideo_inv _ ⟨by rw [h2]; exact h.frameCycle, fun hoff => ?_⟩ h
    rw [h2]
    apply h.displayOff
    simpa [Video.displayOn, h1] using hoff
  simp only [writeVideo]
  repeat' with_reducible apply inv_ite
  all_goals first
    | exact h
    | exact writeLcdc_inv v h
    | exact compareLy_inv (hx _ rfl rfl)
    | exact hx _ rfl rfl

theorem Serial.Ok.control {c : Serial} (h : c.Ok) (v : Byte) : (c.control v).Ok := by
  simp only [Serial.control]
  split
  · exact ⟨h.acc, Nat.zero_le _, fun _ => Nat.zero_lt_succ 7⟩
  · exact ⟨h.acc, h.bits, fun hr => by simp at hr⟩

theorem rebindIf_inv (f : Bool) {s : State} (h : s.Inv) : (rebindIf f 0x0000 0x00FF 0x0100 s).Inv := by
  cases f
  · exact h
  · rw [State.inv_iff] at *
    obtain ⟨h1, h2, h3, h4, h5, h6, h7⟩ := h
    refine ⟨h1, h2, .inl ?_, h4, h5, h6, h7⟩
    simp only [rebindIf, ↓reduceIte, State.setSlots_slots]
    rcases h3 with h3 | h3
    · rw [h3, rebind_slotsWithCartridge]
    · rw [h3.1, rebind_slotsWithBootRom]

/-- A bus write keeps the invariant. -/
theorem busWrite_inv {s : State} (a : Word) (v : Byte) (h : s.Inv) : (busWrite a v s).Inv := by
  simp only [busWrite, handlerWrite]
  split
  · rename_i k hk
    exact setMem_inv _ (MemOk.write ((State.inv_iff _).1 h).1 _ _ (storageKey_address _ _ _ _ hk)) h
  · cases hh : s.handler a <;> simp only [deviceWrite]
    all_goals try exact h
    · simp only [cartridgeWrite]
      split
      · exact h
      · exact h
      · exact inv_congr (s := s) rfl rfl rfl rfl rfl rfl rfl rfl h
    · split
      · exact inv_congr (s := s) rfl rfl rfl rfl rfl rfl rfl rfl h
      · exact h
    · have hser : s.serial.Ok := ⟨h.serialAcc, h.bitCountRange, h.bitCountRunning⟩
      simp only [writeSerial]
      repeat' split
      · exact setSerial_inv _ ⟨hser.acc, hser.bits, hser.running⟩ h
      · exact setSerial_inv _ (hser.control v) h
      · exact h
    · simp only [writeTimer]
      repeat' split
      all_goals first
        | exact h
        | exact inv_congr (s := s) rfl rfl rfl rfl rfl rfl rfl rfl h
    · simp only [writeInterrupt, writeIF, writeIE]
      repeat' split
      all_goals first
        | exact h
        | exact setIrq_inv _ h
    · simp only [writeVideoRegister]
      split
      · exact oamDma_inv v h
      · exact writeVideo_inv a v h
    · have := slot_triggered_of_map _ (SlotsOk.map ((State.inv_iff s).1 h).2.2.1) _ _ _ _ _ hh
      simp only [lockout, Handler.triggered.injEq] at this
      obtain ⟨_, rfl, rfl, rfl⟩ := this
      exact rebindIf_inv _ h

/-- A read keeps the invariant. -/
theorem memRead_inv {s : State} (a : Word) (h : s.Inv) : (memRead a s).2.Inv := busRead_inv a (tick_inv h)

/-- A store keeps the invariant. -/
theorem memWrite_inv {s : State} (a : Word) (v : Byte) (h : s.Inv) : (memWrite a v s).Inv :=
  busWrite_inv a v (tick_inv h)

theorem fetch8_inv {s : State} (h : s.Inv) : (fetch8 s).2.Inv := setRegs_inv _ (memRead_inv _ h)

theorem pop8_inv {s : State} (h : s.Inv) : (pop8 s).2.Inv := setRegs_inv _ (memRead_inv _ h)

theorem pop16_inv {s : State} (h : s.Inv) : (pop16 s).2.Inv := pop8_inv (pop8_inv h)

theorem push8_inv {s : State} (v : Byte) (h : s.Inv) : (push8 v s).Inv := memWrite_inv _ _ (setRegs_inv _ h)

theorem push16_inv {s : State} (v : Word) (h : s.Inv) : (push16 v s).Inv := push8_inv _ (push8_inv _ h)

/-- A read-modify-write at HL keeps the invariant. -/
theorem modifyHL_inv (g : Byte → Flags → Alu8) {s : State} (h : s.Inv) : (modifyHL g s).Inv :=
  setRegs_inv _ (memWrite_inv _ _ (memRead_inv _ h))

/-- A poll keeps the invariant. -/
theorem poll_inv {s : State} (h : s.Inv) : (poll s).Inv :=
  inv_congr (by simp) (by simp) (by simp) (by simp) (by simp) (by simp) (by simp) (by simp) h

end Sys2Proof.Machine
end

