-- ==== Sys2Proof/Laws/Frames.lean ====
section
/-! SUPPORT. Frames of the shared operations in the terms of Safety.lean: what reads, internal cycles and stores leave
alone, and what they cost; and the meaning of the row of a form. -/

namespace Sys2Proof.Machine

/-- The row of a well-formed form has that form. -/
theorem form_toInstr (f : Form) (h : f.wellFormed = true) : f.toInstr.form = f := by
  cases f with
  | ldRR d r => cases d <;> cases r <;> rfl
  | ldRN d => cases d <;> rfl
  | ldRHL d => cases d <;> rfl
  | ldHLR d => cases d <;> rfl
  | aluR o r => cases o <;> cases r <;> rfl
  | aluHL o => cases o <;> rfl
  | aluN o n => cases o <;> rfl
  | incR r => cases r <;> rfl
  | decR r => cases r <;> rfl
  | shiftR o r => cases o <;> cases r <;> rfl
  | shiftHL o => cases o <;> rfl
  | bitR b r => cases b <;> cases r <;> rfl
  | bitHL b => cases b <;> rfl
  | resR b r => cases b <;> cases r <;> rfl
  | resHL b => cases b <;> rfl
  | setR b r => cases b <;> cases r <;> rfl
  | setHL b => cases b <;> rfl
  | rst t => cases t <;> rfl
  | jpCC c nn => cases c <;> rfl
  | jrCC c nn => cases c <;> rfl
  | callCC c nn => cases c <;> rfl
  | retCC c => cases c <;> rfl
  | ldPairNN p nn => cases p <;> first | rfl | simp [Form.wellFormed, Pair.inRp] at h
  | push p => cases p <;> first | rfl | simp [Form.wellFormed, Pair.inRp2] at h
  | pop p => cases p <;> first | rfl | simp [Form.wellFormed, Pair.inRp2, Pair.inRp] at h
  | addHLPair p => cases p <;> first | rfl | simp [Form.wellFormed, Pair.inRp] at h
  | incPair p => cases p <;> first | rfl | simp [Form.wellFormed, Pair.inRp] at h
  | decPair p => cases p <;> first | rfl | simp [Form.wellFormed, Pair.inRp] at h
  | undefined op =>
    simp only [Form.wellFormed, undefinedOpcodes, List.contains_eq_mem, List.mem_cons, decide_eq_true_eq] at h
    rcases h with rfl | rfl | rfl | rfl | rfl | rfl | rfl | rfl | rfl | rfl | rfl | h
    all_goals first | rfl | simp at h
  | _ => rfl

/-- The meaning of the row of a well-formed form. -/
theorem exec_toInstr (f : Form) (h : f.wellFormed = true) (s : State) : exec f.toInstr s = execForm f s :=
  exec_of_form (form_toInstr f h) s

/-- Time moves no setting. -/
@[simp] theorem tState_settings (s : State) : (tState s).settings = s.settings := by
  obtain ⟨eq, he⟩ := videoStep_video (serialStep (timerStep s))
  have hv : (tState s).video = _ := he
  have ht : (tState s).timer = s.timer.step := by simp
  have hc : (tState s).serial = s.serial.step := by simp
  have h1 : s.timer.step.tma = s.timer.tma := rfl
  have h2 : s.timer.step.tac = s.timer.tac := rfl
  have h3 : s.serial.step.internal = s.serial.internal := by
    simp only [Serial.step]
    split
    · rfl
    · split <;> rfl
  simp only [State.settings]
  rw [hv, ht, hc]
  simp [h3, h1, h2]

@[simp] theorem tick_settings (s : State) : (tick s).settings = s.settings := by
  simp only [tick, tState_settings]
  rfl

/-- A bus read moves no setting. -/
@[simp] theorem busRead_settings (a : Word) (s : State) : (busRead a s).2.settings = s.settings := by
  have hsel : (busRead a s).2.input.select = s.input.select := by
    simp only [busRead, handlerRead]
    split
    · rfl
    · cases s.handler a <;> simp [deviceRead, readP1, readSound, poll, Input.polled]
      split <;> simp
  simp [State.settings, hsel]

theorem onlyReads_setRegs_zero (s : State) (r : Regs) : OnlyReads s (s.setRegs r) 0 :=
  ⟨⟨rfl, rfl, rfl, rfl⟩, rfl, fun _ => rfl, fun _ => rfl, rfl⟩

/-- Registers written after the reads keep the frame. -/
theorem OnlyReads.setRegs {s t : State} {n : Nat} (h : OnlyReads s t n) (r : Regs) : OnlyReads s (t.setRegs r) n :=
  ⟨⟨h.control.ime, h.control.eiPending, h.control.run, h.control.params⟩, h.settings, h.memory, h.slots, h.clock⟩

theorem OnlyReads.trans {s t u : State} {n m : Nat} (h : OnlyReads s t n) (g : OnlyReads t u m) :
    OnlyReads s u (n + m) := by
  refine ⟨⟨by rw [g.control.ime, h.control.ime], by rw [g.control.eiPending, h.control.eiPending],
    by rw [g.control.run, h.control.run], by rw [g.control.params, h.control.params]⟩,
    by rw [g.settings, h.settings], fun k => by rw [g.memory, h.memory], ?_, by rw [g.clock, h.clock]; omega⟩
  intro hm
  have h1 := h.slots hm
  rw [g.slots (by simpa [State.mapped, h1] using hm), h1]

/-- An internal cycle. -/
theorem onlyReads_tick (s : State) : OnlyReads s (tick s) 1 :=
  ⟨⟨by simp, by simp, by simp, by simp⟩, by simp, by simp, by simp, by simp⟩

/-- A bus read with its cycle. -/
theorem onlyReads_memRead (a : Word) (s : State) : OnlyReads s (memRead a s).2 1 := by
  refine ⟨⟨by simp, by simp, by simp, by simp⟩, by simp [memRead], by simp, ?_, by simp⟩
  intro h
  simp only [memRead]
  rw [busRead_slots_of_map _ _ (by simpa [State.mapped] using h)]
  simp

theorem onlyReads_pop8 (s : State) : OnlyReads s (pop8 s).2 1 := (onlyReads_memRead _ _).setRegs _

theorem onlyReads_pop16 (s : State) : OnlyReads s (pop16 s).2 2 := (onlyReads_pop8 _).trans (onlyReads_pop8 _)

@[simp] theorem writeVideo_clock (a : Word) (v : Byte) (s : State) : (writeVideo a v s).clock = s.clock := by
  simp [writeVideo, writeLcdc, apply_ite State.clock]

@[simp] theorem oamDma_clock (v : Byte) (s : State) : (oamDma v s).clock = s.clock + 4 * s.params.dmaStallMCycles := by
  simp [oamDma]

/-- A bus write itself charges only the stall of an OAM DMA (R377). -/
theorem busWrite_clock (a : Word) (v : Byte) (s : State) : (busWrite a v s).clock = s.clock + 4 * s.stallCycles a := by
  simp only [busWrite, handlerWrite]
  split
  · rename_i k hk
    have h0 : s.stallCycles a = 0 := by
      simp only [State.stallCycles]
      split
      · rename_i h
        rw [h.1] at hk
        simp [storageKey] at hk
      · rfl
    simp [h0]
  · cases hh : s.handler a <;> simp only [deviceWrite, writeP1, writeSerial, writeTimer, writeInterrupt, writeIF,
      writeIE, writeVideoRegister]
    case videoRegisters =>
      split
      · rename_i ha
        have h2 : s.stallCycles a = s.params.dmaStallMCycles := if_pos ⟨hh, ha⟩
        rw [oamDma_clock, h2]
      · rename_i ha
        have h2 : s.stallCycles a = 0 := if_neg (fun h => ha h.2)
        rw [writeVideo_clock, h2]
        rfl
    all_goals
      have h0 : s.stallCycles a = 0 := by simp [State.stallCycles, hh]
      rw [h0]
      simp [apply_ite State.clock]

@[simp] theorem tick_stallCycles (s : State) (a : Word) : (tick s).stallCycles a = s.stallCycles a := by
  simp [State.stallCycles]

/-- What a store costs. -/
theorem memWrite_clock (a : Word) (v : Byte) (s : State) :
    (memWrite a v s).clock = s.clock + 4 * (1 + s.stallCycles a) := by
  simp only [memWrite, busWrite_clock, tick_clock, tick_stallCycles]
  omega

/-- A store to RAM moves no setting. -/
theorem memWrite_settings_of_cell (a : Word) (v : Byte) (s : State) (k : Nat) (h : s.cellOf a = some k) :
    (memWrite a v s).settings = s.settings := by
  rw [memWrite_of_cell a v s k h, ← tick_settings s]
  rfl

/-- The register after a write of one register. -/
theorem Regs.get8_set8 (g : Regs) (d q : Reg8) (v : Byte) : (g.set8 d v).get8 q = if q = d then v else g.get8 q := by
  cases d <;> cases q <;> rfl

/-- A write of one register leaves F, SP and PC. -/
theorem Regs.set8_others (g : Regs) (d : Reg8) (v : Byte) :
    (g.set8 d v).f = g.f ∧ (g.set8 d v).sp = g.sp ∧ (g.set8 d v).pc = g.pc := by
  cases d <;> exact ⟨rfl, rfl, rfl⟩

/-- `0xFF00 + n` is the byte `n` of the page 0xFF (R98). -/
theorem page_address (n : Byte) : 0xFF00 + zeroExtend16 n = joinBytes 0xFF n := by
  revert n
  decide

end Sys2Proof.Machine
end

