-- ==== Sys2Proof/Laws/PerInstr.lean ====
section
/-! SUPPORT. Per instruction: its form is well formed and names the instruction's own row. -/

namespace Sys2Proof.Laws.RoundTrip

/-- The form of an instruction is well formed, and the row of that form is the instruction. -/
def Statement (i : Instr) : Prop := i.form.wellFormed = true ∧ i.form.toInstr = i

theorem ld_bc_nn (nn : Word) : Statement (.ld_bc_nn nn) := ⟨rfl, rfl⟩
theorem ld_b_n (n : Byte) : Statement (.ld_b_n n) := ⟨rfl, rfl⟩
theorem ld__nn__sp (nn : Word) : Statement (.ld__nn__sp nn) := ⟨rfl, rfl⟩
theorem ld_c_n (n : Byte) : Statement (.ld_c_n n) := ⟨rfl, rfl⟩
theorem ld_de_nn (nn : Word) : Statement (.ld_de_nn nn) := ⟨rfl, rfl⟩
theorem ld_d_n (n : Byte) : Statement (.ld_d_n n) := ⟨rfl, rfl⟩
theorem jr_e (e : Byte) : Statement (.jr_e e) := ⟨rfl, rfl⟩
theorem ld_e_n (n : Byte) : Statement (.ld_e_n n) := ⟨rfl, rfl⟩
theorem jr_nz_e (e : Byte) : Statement (.jr_nz_e e) := ⟨rfl, rfl⟩
theorem ld_hl_nn (nn : Word) : Statement (.ld_hl_nn nn) := ⟨rfl, rfl⟩
theorem ld_h_n (n : Byte) : Statement (.ld_h_n n) := ⟨rfl, rfl⟩
theorem jr_z_e (e : Byte) : Statement (.jr_z_e e) := ⟨rfl, rfl⟩
theorem ld_l_n (n : Byte) : Statement (.ld_l_n n) := ⟨rfl, rfl⟩
theorem jr_nc_e (e : Byte) : Statement (.jr_nc_e e) := ⟨rfl, rfl⟩
theorem ld_sp_nn (nn : Word) : Statement (.ld_sp_nn nn) := ⟨rfl, rfl⟩
theorem ld__hl__n (n : Byte) : Statement (.ld__hl__n n) := ⟨rfl, rfl⟩
theorem jr_c_e (e : Byte) : Statement (.jr_c_e e) := ⟨rfl, rfl⟩
theorem ld_a_n (n : Byte) : Statement (.ld_a_n n) := ⟨rfl, rfl⟩
theorem jp_nz_nn (nn : Word) : Statement (.jp_nz_nn nn) := ⟨rfl, rfl⟩
theorem jp_nn (nn : Word) : Statement (.jp_nn nn) := ⟨rfl, rfl⟩
theorem call_nz_nn (nn : Word) : Statement (.call_nz_nn nn) := ⟨rfl, rfl⟩
theorem add_a_n (n : Byte) : Statement (.add_a_n n) := ⟨rfl, rfl⟩
theorem jp_z_nn (nn : Word) : Statement (.jp_z_nn nn) := ⟨rfl, rfl⟩
theorem call_z_nn (nn : Word) : Statement (.call_z_nn nn) := ⟨rfl, rfl⟩
theorem call_nn (nn : Word) : Statement (.call_nn nn) := ⟨rfl, rfl⟩
theorem adc_a_n (n : Byte) : Statement (.adc_a_n n) := ⟨rfl, rfl⟩
theorem jp_nc_nn (nn : Word) : Statement (.jp_nc_nn nn) := ⟨rfl, rfl⟩
theorem call_nc_nn (nn : Word) : Statement (.call_nc_nn nn) := ⟨rfl, rfl⟩
theorem sub_n (n : Byte) : Statement (.sub_n n) := ⟨rfl, rfl⟩
theorem jp_c_nn (nn : Word) : Statement (.jp_c_nn nn) := ⟨rfl, rfl⟩
theorem call_c_nn (nn : Word) : Statement (.call_c_nn nn) := ⟨rfl, rfl⟩
theorem sbc_a_n (n : Byte) : Statement (.sbc_a_n n) := ⟨rfl, rfl⟩
theorem ld__n__a (n : Byte) : Statement (.ld__n__a n) := ⟨rfl, rfl⟩
theorem and_n (n : Byte) : Statement (.and_n n) := ⟨rfl, rfl⟩
theorem add_sp_e (e : Byte) : Statement (.add_sp_e e) := ⟨rfl, rfl⟩
theorem ld__nn__a (nn : Word) : Statement (.ld__nn__a nn) := ⟨rfl, rfl⟩
theorem xor_n (n : Byte) : Statement (.xor_n n) := ⟨rfl, rfl⟩
theorem ld_a__n (n : Byte) : Statement (.ld_a__n n) := ⟨rfl, rfl⟩
theorem or_n (n : Byte) : Statement (.or_n n) := ⟨rfl, rfl⟩
theorem ldhl_sp_e (e : Byte) : Statement (.ldhl_sp_e e) := ⟨rfl, rfl⟩
theorem ld_a__nn (nn : Word) : Statement (.ld_a__nn nn) := ⟨rfl, rfl⟩
theorem cp_n (n : Byte) : Statement (.cp_n n) := ⟨rfl, rfl⟩
theorem nop : Statement .nop := ⟨rfl, rfl⟩
theorem ld__bc__a : Statement .ld__bc__a := ⟨rfl, rfl⟩
theorem inc_bc : Statement .inc_bc := ⟨rfl, rfl⟩
theorem inc_b : Statement .inc_b := ⟨rfl, rfl⟩
theorem dec_b : Statement .dec_b := ⟨rfl, rfl⟩
theorem rlca : Statement .rlca := ⟨rfl, rfl⟩
theorem add_hl_bc : Statement .add_hl_bc := ⟨rfl, rfl⟩
theorem ld_a__bc : Statement .ld_a__bc := ⟨rfl, rfl⟩
theorem dec_bc : Statement .dec_bc := ⟨rfl, rfl⟩
theorem inc_c : Statement .inc_c := ⟨rfl, rfl⟩
theorem dec_c : Statement .dec_c := ⟨rfl, rfl⟩
theorem rrca : Statement .rrca := ⟨rfl, rfl⟩
theorem stop : Statement .stop := ⟨rfl, rfl⟩
theorem ld__de__a : Statement .ld__de__a := ⟨rfl, rfl⟩
theorem inc_de : Statement .inc_de := ⟨rfl, rfl⟩
theorem inc_d : Statement .inc_d := ⟨rfl, rfl⟩
theorem dec_d : Statement .dec_d := ⟨rfl, rfl⟩
theorem rla : Statement .rla := ⟨rfl, rfl⟩
theorem add_hl_de : Statement .add_hl_de := ⟨rfl, rfl⟩
theorem ld_a__de : Statement .ld_a__de := ⟨rfl, rfl⟩
theorem dec_de : Statement .dec_de := ⟨rfl, rfl⟩
theorem inc_e : Statement .inc_e := ⟨rfl, rfl⟩
theorem dec_e : Statement .dec_e := ⟨rfl, rfl⟩
theorem rra : Statement .rra := ⟨rfl, rfl⟩
theorem ld__hli__a : Statement .ld__hli__a := ⟨rfl, rfl⟩
theorem inc_hl : Statement .inc_hl := ⟨rfl, rfl⟩
theorem inc_h : Statement .inc_h := ⟨rfl, rfl⟩
theorem dec_h : Statement .dec_h := ⟨rfl, rfl⟩
theorem daa : Statement .daa := ⟨rfl, rfl⟩
theorem add_hl_hl : Statement .add_hl_hl := ⟨rfl, rfl⟩
theorem ld_a__hli : Statement .ld_a__hli := ⟨rfl, rfl⟩
theorem dec_hl : Statement .dec_hl := ⟨rfl, rfl⟩
theorem inc_l : Statement .inc_l := ⟨rfl, rfl⟩
theorem dec_l : Statement .dec_l := ⟨rfl, rfl⟩
theorem cpl : Statement .cpl := ⟨rfl, rfl⟩
theorem ld__hld__a : Statement .ld__hld__a := ⟨rfl, rfl⟩
theorem inc_sp : Statement .inc_sp := ⟨rfl, rfl⟩
theorem inc__hl : Statement .inc__hl := ⟨rfl, rfl⟩
theorem dec__hl : Statement .dec__hl := ⟨rfl, rfl⟩
theorem scf : Statement .scf := ⟨rfl, rfl⟩
theorem add_hl_sp : Statement .add_hl_sp := ⟨rfl, rfl⟩
theorem ld_a__hld : Statement .ld_a__hld := ⟨rfl, rfl⟩
theorem dec_sp : Statement .dec_sp := ⟨rfl, rfl⟩
theorem inc_a : Statement .inc_a := ⟨rfl, rfl⟩
theorem dec_a : Statement .dec_a := ⟨rfl, rfl⟩
theorem ccf : Statement .ccf := ⟨rfl, rfl⟩
theorem ld_b_b : Statement .ld_b_b := ⟨rfl, rfl⟩
theorem ld_b_c : Statement .ld_b_c := ⟨rfl, rfl⟩
theorem ld_b_d : Statement .ld_b_d := ⟨rfl, rfl⟩
theorem ld_b_e : Statement .ld_b_e := ⟨rfl, rfl⟩
theorem ld_b_h : Statement .ld_b_h := ⟨rfl, rfl⟩
theorem ld_b_l : Statement .ld_b_l := ⟨rfl, rfl⟩
theorem ld_b__hl : Statement .ld_b__hl := ⟨rfl, rfl⟩
theorem ld_b_a : Statement .ld_b_a := ⟨rfl, rfl⟩
theorem ld_c_b : Statement .ld_c_b := ⟨rfl, rfl⟩
theorem ld_c_c : Statement .ld_c_c := ⟨rfl, rfl⟩
theorem ld_c_d : Statement .ld_c_d := ⟨rfl, rfl⟩
theorem ld_c_e : Statement .ld_c_e := ⟨rfl, rfl⟩
theorem ld_c_h : Statement .ld_c_h := ⟨rfl, rfl⟩
theorem ld_c_l : Statement .ld_c_l := ⟨rfl, rfl⟩
theorem ld_c__hl : Statement .ld_c__hl := ⟨rfl, rfl⟩
theorem ld_c_a : Statement .ld_c_a := ⟨rfl, rfl⟩
theorem ld_d_b : Statement .ld_d_b := ⟨rfl, rfl⟩
theorem ld_d_c : Statement .ld_d_c := ⟨rfl, rfl⟩
theorem ld_d_d : Statement .ld_d_d := ⟨rfl, rfl⟩
theorem ld_d_e : Statement .ld_d_e := ⟨rfl, rfl⟩
theorem ld_d_h : Statement .ld_d_h := ⟨rfl, rfl⟩
theorem ld_d_l : Statement .ld_d_l := ⟨rfl, rfl⟩
theorem ld_d__hl : Statement .ld_d__hl := ⟨rfl, rfl⟩
theorem ld_d_a : Statement .ld_d_a := ⟨rfl, rfl⟩
theorem ld_e_b : Statement .ld_e_b := ⟨rfl, rfl⟩
theorem ld_e_c : Statement .ld_e_c := ⟨rfl, rfl⟩
theorem ld_e_d : Statement .ld_e_d := ⟨rfl, rfl⟩
theorem ld_e_e : Statement .ld_e_e := ⟨rfl, rfl⟩
theorem ld_e_h : Statement .ld_e_h := ⟨rfl, rfl⟩
theorem ld_e_l : Statement .ld_e_l := ⟨rfl, rfl⟩
theorem ld_e__hl : Statement .ld_e__hl := ⟨rfl, rfl⟩
theorem ld_e_a : Statement .ld_e_a := ⟨rfl, rfl⟩
theorem ld_h_b : Statement .ld_h_b := ⟨rfl, rfl⟩
theorem ld_h_c : Statement .ld_h_c := ⟨rfl, rfl⟩
theorem ld_h_d : Statement .ld_h_d := ⟨rfl, rfl⟩
theorem ld_h_e : Statement .ld_h_e := ⟨rfl, rfl⟩
theorem ld_h_h : Statement .ld_h_h := ⟨rfl, rfl⟩
theorem ld_h_l : Statement .ld_h_l := ⟨rfl, rfl⟩
theorem ld_h__hl : Statement .ld_h__hl := ⟨rfl, rfl⟩
theorem ld_h_a : Statement .ld_h_a := ⟨rfl, rfl⟩
theorem ld_l_b : Statement .ld_l_b := ⟨rfl, rfl⟩
theorem ld_l_c : Statement .ld_l_c := ⟨rfl, rfl⟩
theorem ld_l_d : Statement .ld_l_d := ⟨rfl, rfl⟩
theorem ld_l_e : Statement .ld_l_e := ⟨rfl, rfl⟩
theorem ld_l_h : Statement .ld_l_h := ⟨rfl, rfl⟩
theorem ld_l_l : Statement .ld_l_l := ⟨rfl, rfl⟩
theorem ld_l__hl : Statement .ld_l__hl := ⟨rfl, rfl⟩
theorem ld_l_a : Statement .ld_l_a := ⟨rfl, rfl⟩
theorem ld__hl__b : Statement .ld__hl__b := ⟨rfl, rfl⟩
theorem ld__hl__c : Statement .ld__hl__c := ⟨rfl, rfl⟩
theorem ld__hl__d : Statement .ld__hl__d := ⟨rfl, rfl⟩
theorem ld__hl__e : Statement .ld__hl__e := ⟨rfl, rfl⟩
theorem ld__hl__h : Statement .ld__hl__h := ⟨rfl, rfl⟩
theorem ld__hl__l : Statement .ld__hl__l := ⟨rfl, rfl⟩
theorem halt : Statement .halt := ⟨rfl, rfl⟩
theorem ld__hl__a : Statement .ld__hl__a := ⟨rfl, rfl⟩
theorem ld_a_b : Statement .ld_a_b := ⟨rfl, rfl⟩
theorem ld_a_c : Statement .ld_a_c := ⟨rfl, rfl⟩
theorem ld_a_d : Statement .ld_a_d := ⟨rfl, rfl⟩
theorem ld_a_e : Statement .ld_a_e := ⟨rfl, rfl⟩
theorem ld_a_h : Statement .ld_a_h := ⟨rfl, rfl⟩
theorem ld_a_l : Statement .ld_a_l := ⟨rfl, rfl⟩
theorem ld_a__hl : Statement .ld_a__hl := ⟨rfl, rfl⟩
theorem ld_a_a : Statement .ld_a_a := ⟨rfl, rfl⟩
theorem add_a_b : Statement .add_a_b := ⟨rfl, rfl⟩
theorem add_a_c : Statement .add_a_c := ⟨rfl, rfl⟩
theorem add_a_d : Statement .add_a_d := ⟨rfl, rfl⟩
theorem add_a_e : Statement .add_a_e := ⟨rfl, rfl⟩
theorem add_a_h : Statement .add_a_h := ⟨rfl, rfl⟩
theorem add_a_l : Statement .add_a_l := ⟨rfl, rfl⟩
theorem add_a__hl : Statement .add_a__hl := ⟨rfl, rfl⟩
theorem add_a_a : Statement .add_a_a := ⟨rfl, rfl⟩
theorem adc_a_b : Statement .adc_a_b := ⟨rfl, rfl⟩
theorem adc_a_c : Statement .adc_a_c := ⟨rfl, rfl⟩
theorem adc_a_d : Statement .adc_a_d := ⟨rfl, rfl⟩
theorem adc_a_e : Statement .adc_a_e := ⟨rfl, rfl⟩
theorem adc_a_h : Statement .adc_a_h := ⟨rfl, rfl⟩
theorem adc_a_l : Statement .adc_a_l := ⟨rfl, rfl⟩
theorem adc_a__hl : Statement .adc_a__hl := ⟨rfl, rfl⟩
theorem adc_a_a : Statement .adc_a_a := ⟨rfl, rfl⟩
theorem sub_b : Statement .sub_b := ⟨rfl, rfl⟩
theorem sub_c : Statement .sub_c := ⟨rfl, rfl⟩
theorem sub_d : Statement .sub_d := ⟨rfl, rfl⟩
theorem sub_e : Statement .sub_e := ⟨rfl, rfl⟩
theorem sub_h : Statement .sub_h := ⟨rfl, rfl⟩
theorem sub_l : Statement .sub_l := ⟨rfl, rfl⟩
theorem sub__hl : Statement .sub__hl := ⟨rfl, rfl⟩
theorem sub_a : Statement .sub_a := ⟨rfl, rfl⟩
theorem sbc_a_b : Statement .sbc_a_b := ⟨rfl, rfl⟩
theorem sbc_a_c : Statement .sbc_a_c := ⟨rfl, rfl⟩
theorem sbc_a_d : Statement .sbc_a_d := ⟨rfl, rfl⟩
theorem sbc_a_e : Statement .sbc_a_e := ⟨rfl, rfl⟩
theorem sbc_a_h : Statement .sbc_a_h := ⟨rfl, rfl⟩
theorem sbc_a_l : Statement .sbc_a_l := ⟨rfl, rfl⟩
theorem sbc_a__hl : Statement .sbc_a__hl := ⟨rfl, rfl⟩
theorem sbc_a_a : Statement .sbc_a_a := ⟨rfl, rfl⟩
theorem and_b : Statement .and_b := ⟨rfl, rfl⟩
theorem and_c : Statement .and_c := ⟨rfl, rfl⟩
theorem and_d : Statement .and_d := ⟨rfl, rfl⟩
theorem and_e : Statement .and_e := ⟨rfl, rfl⟩
theorem and_h : Statement .and_h := ⟨rfl, rfl⟩
theorem and_l : Statement .and_l := ⟨rfl, rfl⟩
theorem and__hl : Statement .and__hl := ⟨rfl, rfl⟩
theorem and_a : Statement .and_a := ⟨rfl, rfl⟩
theorem xor_b : Statement .xor_b := ⟨rfl, rfl⟩
theorem xor_c : Statement .xor_c := ⟨rfl, rfl⟩
theorem xor_d : Statement .xor_d := ⟨rfl, rfl⟩
theorem xor_e : Statement .xor_e := ⟨rfl, rfl⟩
theorem xor_h : Statement .xor_h := ⟨rfl, rfl⟩
theorem xor_l : Statement .xor_l := ⟨rfl, rfl⟩
theorem xor__hl : Statement .xor__hl := ⟨rfl, rfl⟩
theorem xor_a : Statement .xor_a := ⟨rfl, rfl⟩
theorem or_b : Statement .or_b := ⟨rfl, rfl⟩
theorem or_c : Statement .or_c := ⟨rfl, rfl⟩
theorem or_d : Statement .or_d := ⟨rfl, rfl⟩
theorem or_e : Statement .or_e := ⟨rfl, rfl⟩
theorem or_h : Statement .or_h := ⟨rfl, rfl⟩
theorem or_l : Statement .or_l := ⟨rfl, rfl⟩
theorem or__hl : Statement .or__hl := ⟨rfl, rfl⟩
theorem or_a : Statement .or_a := ⟨rfl, rfl⟩
theorem cp_b : Statement .cp_b := ⟨rfl, rfl⟩
theorem cp_c : Statement .cp_c := ⟨rfl, rfl⟩
theorem cp_d : Statement .cp_d := ⟨rfl, rfl⟩
theorem cp_e : Statement .cp_e := ⟨rfl, rfl⟩
theorem cp_h : Statement .cp_h := ⟨rfl, rfl⟩
theorem cp_l : Statement .cp_l := ⟨rfl, rfl⟩
theorem cp__hl : Statement .cp__hl := ⟨rfl, rfl⟩
theorem cp_a : Statement .cp_a := ⟨rfl, rfl⟩
theorem ret_nz : Statement .ret_nz := ⟨rfl, rfl⟩
theorem pop_bc : Statement .pop_bc := ⟨rfl, rfl⟩
theorem push_bc : Statement .push_bc := ⟨rfl, rfl⟩
theorem rst_00h : Statement .rst_00h := ⟨rfl, rfl⟩
theorem ret_z : Statement .ret_z := ⟨rfl, rfl⟩
theorem ret : Statement .ret := ⟨rfl, rfl⟩
theorem rst_08h : Statement .rst_08h := ⟨rfl, rfl⟩
theorem ret_nc : Statement .ret_nc := ⟨rfl, rfl⟩
theorem pop_de : Statement .pop_de := ⟨rfl, rfl⟩
theorem undefined_0xd3 : Statement .undefined_0xd3 := ⟨rfl, rfl⟩
theorem push_de : Statement .push_de := ⟨rfl, rfl⟩
theorem rst_10h : Statement .rst_10h := ⟨rfl, rfl⟩
theorem ret_c : Statement .ret_c := ⟨rfl, rfl⟩
theorem reti : Statement .reti := ⟨rfl, rfl⟩
theorem undefined_0xdb : Statement .undefined_0xdb := ⟨rfl, rfl⟩
theorem undefined_0xdd : Statement .undefined_0xdd := ⟨rfl, rfl⟩
theorem rst_18h : Statement .rst_18h := ⟨rfl, rfl⟩
theorem pop_hl : Statement .pop_hl := ⟨rfl, rfl⟩
theorem ld__c__a : Statement .ld__c__a := ⟨rfl, rfl⟩
theorem undefined_0xe3 : Statement .undefined_0xe3 := ⟨rfl, rfl⟩
theorem undefined_0xe4 : Statement .undefined_0xe4 := ⟨rfl, rfl⟩
theorem push_hl : Statement .push_hl := ⟨rfl, rfl⟩
theorem rst_20h : Statement .rst_20h := ⟨rfl, rfl⟩
theorem jp__hl : Statement .jp__hl := ⟨rfl, rfl⟩
theorem undefined_0xeb : Statement .undefined_0xeb := ⟨rfl, rfl⟩
theorem undefined_0xec : Statement .undefined_0xec := ⟨rfl, rfl⟩
theorem undefined_0xed : Statement .undefined_0xed := ⟨rfl, rfl⟩
theorem rst_28h : Statement .rst_28h := ⟨rfl, rfl⟩
theorem pop_af : Statement .pop_af := ⟨rfl, rfl⟩
theorem ld_a__c : Statement .ld_a__c := ⟨rfl, rfl⟩
theorem di : Statement .di := ⟨rfl, rfl⟩
theorem undefined_0xf4 : Statement .undefined_0xf4 := ⟨rfl, rfl⟩
theorem push_af : Statement .push_af := ⟨rfl, rfl⟩
theorem rst_30h : Statement .rst_30h := ⟨rfl, rfl⟩
theorem ld_sp_hl : Statement .ld_sp_hl := ⟨rfl, rfl⟩
theorem ei : Statement .ei := ⟨rfl, rfl⟩
theorem undefined_0xfc : Statement .undefined_0xfc := ⟨rfl, rfl⟩
theorem undefined_0xfd : Statement .undefined_0xfd := ⟨rfl, rfl⟩
theorem rst_38h : Statement .rst_38h := ⟨rfl, rfl⟩
theorem rlc_b : Statement .rlc_b := ⟨rfl, rfl⟩
theorem rlc_c : Statement .rlc_c := ⟨rfl, rfl⟩
theorem rlc_d : Statement .rlc_d := ⟨rfl, rfl⟩
theorem rlc_e : Statement .rlc_e := ⟨rfl, rfl⟩
theorem rlc_h : Statement .rlc_h := ⟨rfl, rfl⟩
theorem rlc_l : Statement .rlc_l := ⟨rfl, rfl⟩
theorem rlc__hl : Statement .rlc__hl := ⟨rfl, rfl⟩
theorem rlc_a : Statement .rlc_a := ⟨rfl, rfl⟩
theorem rrc_b : Statement .rrc_b := ⟨rfl, rfl⟩
theorem rrc_c : Statement .rrc_c := ⟨rfl, rfl⟩
theorem rrc_d : Statement .rrc_d := ⟨rfl, rfl⟩
theorem rrc_e : Statement .rrc_e := ⟨rfl, rfl⟩
theorem rrc_h : Statement .rrc_h := ⟨rfl, rfl⟩
theorem rrc_l : Statement .rrc_l := ⟨rfl, rfl⟩
theorem rrc__hl : Statement .rrc__hl := ⟨rfl, rfl⟩
theorem rrc_a : Statement .rrc_a := ⟨rfl, rfl⟩
theorem rl_b : Statement .rl_b := ⟨rfl, rfl⟩
theorem rl_c : Statement .rl_c := ⟨rfl, rfl⟩
theorem rl_d : Statement .rl_d := ⟨rfl, rfl⟩
theorem rl_e : Statement .rl_e := ⟨rfl, rfl⟩
theorem rl_h : Statement .rl_h := ⟨rfl, rfl⟩
theorem rl_l : Statement .rl_l := ⟨rfl, rfl⟩
theorem rl__hl : Statement .rl__hl := ⟨rfl, rfl⟩
theorem rl_a : Statement .rl_a := ⟨rfl, rfl⟩
theorem rr_b : Statement .rr_b := ⟨rfl, rfl⟩
theorem rr_c : Statement .rr_c := ⟨rfl, rfl⟩
theorem rr_d : Statement .rr_d := ⟨rfl, rfl⟩
theorem rr_e : Statement .rr_e := ⟨rfl, rfl⟩
theorem rr_h : Statement .rr_h := ⟨rfl, rfl⟩
theorem rr_l : Statement .rr_l := ⟨rfl, rfl⟩
theorem rr__hl : Statement .rr__hl := ⟨rfl, rfl⟩
theorem rr_a : Statement .rr_a := ⟨rfl, rfl⟩
theorem sla_b : Statement .sla_b := ⟨rfl, rfl⟩
theorem sla_c : Statement .sla_c := ⟨rfl, rfl⟩
theorem sla_d : Statement .sla_d := ⟨rfl, rfl⟩
theorem sla_e : Statement .sla_e := ⟨rfl, rfl⟩
theorem sla_h : Statement .sla_h := ⟨rfl, rfl⟩
theorem sla_l : Statement .sla_l := ⟨rfl, rfl⟩
theorem sla__hl : Statement .sla__hl := ⟨rfl, rfl⟩
theorem sla_a : Statement .sla_a := ⟨rfl, rfl⟩
theorem sra_b : Statement .sra_b := ⟨rfl, rfl⟩
theorem sra_c : Statement .sra_c := ⟨rfl, rfl⟩
theorem sra_d : Statement .sra_d := ⟨rfl, rfl⟩
theorem sra_e : Statement .sra_e := ⟨rfl, rfl⟩
theorem sra_h : Statement .sra_h := ⟨rfl, rfl⟩
theorem sra_l : Statement .sra_l := ⟨rfl, rfl⟩
theorem sra__hl : Statement .sra__hl := ⟨rfl, rfl⟩
theorem sra_a : Statement .sra_a := ⟨rfl, rfl⟩
theorem swap_b : Statement .swap_b := ⟨rfl, rfl⟩
theorem swap_c : Statement .swap_c := ⟨rfl, rfl⟩
theorem swap_d : Statement .swap_d := ⟨rfl, rfl⟩
theorem swap_e : Statement .swap_e := ⟨rfl, rfl⟩
theorem swap_h : Statement .swap_h := ⟨rfl, rfl⟩
theorem swap_l : Statement .swap_l := ⟨rfl, rfl⟩
theorem swap__hl : Statement .swap__hl := ⟨rfl, rfl⟩
theorem swap_a : Statement .swap_a := ⟨rfl, rfl⟩
theorem srl_b : Statement .srl_b := ⟨rfl, rfl⟩
theorem srl_c : Statement .srl_c := ⟨rfl, rfl⟩
theorem srl_d : Statement .srl_d := ⟨rfl, rfl⟩
theorem srl_e : Statement .srl_e := ⟨rfl, rfl⟩
theorem srl_h : Statement .srl_h := ⟨rfl, rfl⟩
theorem srl_l : Statement .srl_l := ⟨rfl, rfl⟩
theorem srl__hl : Statement .srl__hl := ⟨rfl, rfl⟩
theorem srl_a : Statement .srl_a := ⟨rfl, rfl⟩
theorem bit_0_b : Statement .bit_0_b := ⟨rfl, rfl⟩
theorem bit_0_c : Statement .bit_0_c := ⟨rfl, rfl⟩
theorem bit_0_d : Statement .bit_0_d := ⟨rfl, rfl⟩
theorem bit_0_e : Statement .bit_0_e := ⟨rfl, rfl⟩
theorem bit_0_h : Statement .bit_0_h := ⟨rfl, rfl⟩
theorem bit_0_l : Statement .bit_0_l := ⟨rfl, rfl⟩
theorem bit_0__hl : Statement .bit_0__hl := ⟨rfl, rfl⟩
theorem bit_0_a : Statement .bit_0_a := ⟨rfl, rfl⟩
theorem bit_1_b : Statement .bit_1_b := ⟨rfl, rfl⟩
theorem bit_1_c : Statement .bit_1_c := ⟨rfl, rfl⟩
theorem bit_1_d : Statement .bit_1_d := ⟨rfl, rfl⟩
theorem bit_1_e : Statement .bit_1_e := ⟨rfl, rfl⟩
theorem bit_1_h : Statement .bit_1_h := ⟨rfl, rfl⟩
theorem bit_1_l : Statement .bit_1_l := ⟨rfl, rfl⟩
theorem bit_1__hl : Statement .bit_1__hl := ⟨rfl, rfl⟩
theorem bit_1_a : Statement .bit_1_a := ⟨rfl, rfl⟩
theorem bit_2_b : Statement .bit_2_b := ⟨rfl, rfl⟩
theorem bit_2_c : Statement .bit_2_c := ⟨rfl, rfl⟩
theorem bit_2_d : Statement .bit_2_d := ⟨rfl, rfl⟩
theorem bit_2_e : Statement .bit_2_e := ⟨rfl, rfl⟩
theorem bit_2_h : Statement .bit_2_h := ⟨rfl, rfl⟩
theorem bit_2_l : Statement .bit_2_l := ⟨rfl, rfl⟩
theorem bit_2__hl : Statement .bit_2__hl := ⟨rfl, rfl⟩
theorem bit_2_a : Statement .bit_2_a := ⟨rfl, rfl⟩
theorem bit_3_b : Statement .bit_3_b := ⟨rfl, rfl⟩
theorem bit_3_c : Statement .bit_3_c := ⟨rfl, rfl⟩
theorem bit_3_d : Statement .bit_3_d := ⟨rfl, rfl⟩
theorem bit_3_e : Statement .bit_3_e := ⟨rfl, rfl⟩
theorem bit_3_h : Statement .bit_3_h := ⟨rfl, rfl⟩
theorem bit_3_l : Statement .bit_3_l := ⟨rfl, rfl⟩
theorem bit_3__hl : Statement .bit_3__hl := ⟨rfl, rfl⟩
theorem bit_3_a : Statement .bit_3_a := ⟨rfl, rfl⟩
theorem bit_4_b : Statement .bit_4_b := ⟨rfl, rfl⟩
theorem bit_4_c : Statement .bit_4_c := ⟨rfl, rfl⟩
theorem bit_4_d : Statement .bit_4_d := ⟨rfl, rfl⟩
theorem bit_4_e : Statement .bit_4_e := ⟨rfl, rfl⟩
theorem bit_4_h : Statement .bit_4_h := ⟨rfl, rfl⟩
theorem bit_4_l : Statement .bit_4_l := ⟨rfl, rfl⟩
theorem bit_4__hl : Statement .bit_4__hl := ⟨rfl, rfl⟩
theorem bit_4_a : Statement .bit_4_a := ⟨rfl, rfl⟩
theorem bit_5_b : Statement .bit_5_b := ⟨rfl, rfl⟩
theorem bit_5_c : Statement .bit_5_c := ⟨rfl, rfl⟩
theorem bit_5_d : Statement .bit_5_d := ⟨rfl, rfl⟩
theorem bit_5_e : Statement .bit_5_e := ⟨rfl, rfl⟩
theorem bit_5_h : Statement .bit_5_h := ⟨rfl, rfl⟩
theorem bit_5_l : Statement .bit_5_l := ⟨rfl, rfl⟩
theorem bit_5__hl : Statement .bit_5__hl := ⟨rfl, rfl⟩
theorem bit_5_a : Statement .bit_5_a := ⟨rfl, rfl⟩
theorem bit_6_b : Statement .bit_6_b := ⟨rfl, rfl⟩
theorem bit_6_c : Statement .bit_6_c := ⟨rfl, rfl⟩
theorem bit_6_d : Statement .bit_6_d := ⟨rfl, rfl⟩
theorem bit_6_e : Statement .bit_6_e := ⟨rfl, rfl⟩
theorem bit_6_h : Statement .bit_6_h := ⟨rfl, rfl⟩
theorem bit_6_l : Statement .bit_6_l := ⟨rfl, rfl⟩
theorem bit_6__hl : Statement .bit_6__hl := ⟨rfl, rfl⟩
theorem bit_6_a : Statement .bit_6_a := ⟨rfl, rfl⟩
theorem bit_7_b : Statement .bit_7_b := ⟨rfl, rfl⟩
theorem bit_7_c : Statement .bit_7_c := ⟨rfl, rfl⟩
theorem bit_7_d : Statement .bit_7_d := ⟨rfl, rfl⟩
theorem bit_7_e : Statement .bit_7_e := ⟨rfl, rfl⟩
theorem bit_7_h : Statement .bit_7_h := ⟨rfl, rfl⟩
theorem bit_7_l : Statement .bit_7_l := ⟨rfl, rfl⟩
theorem bit_7__hl : Statement .bit_7__hl := ⟨rfl, rfl⟩
theorem bit_7_a : Statement .bit_7_a := ⟨rfl, rfl⟩
theorem res_0_b : Statement .res_0_b := ⟨rfl, rfl⟩
theorem res_0_c : Statement .res_0_c := ⟨rfl, rfl⟩
theorem res_0_d : Statement .res_0_d := ⟨rfl, rfl⟩
theorem res_0_e : Statement .res_0_e := ⟨rfl, rfl⟩
theorem res_0_h : Statement .res_0_h := ⟨rfl, rfl⟩
theorem res_0_l : Statement .res_0_l := ⟨rfl, rfl⟩
theorem res_0__hl : Statement .res_0__hl := ⟨rfl, rfl⟩
theorem res_0_a : Statement .res_0_a := ⟨rfl, rfl⟩
theorem res_1_b : Statement .res_1_b := ⟨rfl, rfl⟩
theorem res_1_c : Statement .res_1_c := ⟨rfl, rfl⟩
theorem res_1_d : Statement .res_1_d := ⟨rfl, rfl⟩
theorem res_1_e : Statement .res_1_e := ⟨rfl, rfl⟩
theorem res_1_h : Statement .res_1_h := ⟨rfl, rfl⟩
theorem res_1_l : Statement .res_1_l := ⟨rfl, rfl⟩
theorem res_1__hl : Statement .res_1__hl := ⟨rfl, rfl⟩
theorem res_1_a : Statement .res_1_a := ⟨rfl, rfl⟩
theorem res_2_b : Statement .res_2_b := ⟨rfl, rfl⟩
theorem res_2_c : Statement .res_2_c := ⟨rfl, rfl⟩
theorem res_2_d : Statement .res_2_d := ⟨rfl, rfl⟩
theorem res_2_e : Statement .res_2_e := ⟨rfl, rfl⟩
theorem res_2_h : Statement .res_2_h := ⟨rfl, rfl⟩
theorem res_2_l : Statement .res_2_l := ⟨rfl, rfl⟩
theorem res_2__hl : Statement .res_2__hl := ⟨rfl, rfl⟩
theorem res_2_a : Statement .res_2_a := ⟨rfl, rfl⟩
theorem res_3_b : Statement .res_3_b := ⟨rfl, rfl⟩
theorem res_3_c : Statement .res_3_c := ⟨rfl, rfl⟩
theorem res_3_d : Statement .res_3_d := ⟨rfl, rfl⟩
theorem res_3_e : Statement .res_3_e := ⟨rfl, rfl⟩
theorem res_3_h : Statement .res_3_h := ⟨rfl, rfl⟩
theorem res_3_l : Statement .res_3_l := ⟨rfl, rfl⟩
theorem res_3__hl : Statement .res_3__hl := ⟨rfl, rfl⟩
theorem res_3_a : Statement .res_3_a := ⟨rfl, rfl⟩
theorem res_4_b : Statement .res_4_b := ⟨rfl, rfl⟩
theorem res_4_c : Statement .res_4_c := ⟨rfl, rfl⟩
theorem res_4_d : Statement .res_4_d := ⟨rfl, rfl⟩
theorem res_4_e : Statement .res_4_e := ⟨rfl, rfl⟩
theorem res_4_h : Statement .res_4_h := ⟨rfl, rfl⟩
theorem res_4_l : Statement .res_4_l := ⟨rfl, rfl⟩
theorem res_4__hl : Statement .res_4__hl := ⟨rfl, rfl⟩
theorem res_4_a : Statement .res_4_a := ⟨rfl, rfl⟩
theorem res_5_b : Statement .res_5_b := ⟨rfl, rfl⟩
theorem res_5_c : Statement .res_5_c := ⟨rfl, rfl⟩
theorem res_5_d : Statement .res_5_d := ⟨rfl, rfl⟩
theorem res_5_e : Statement .res_5_e := ⟨rfl, rfl⟩
theorem res_5_h : Statement .res_5_h := ⟨rfl, rfl⟩
theorem res_5_l : Statement .res_5_l := ⟨rfl, rfl⟩
theorem res_5__hl : Statement .res_5__hl := ⟨rfl, rfl⟩
theorem res_5_a : Statement .res_5_a := ⟨rfl, rfl⟩
theorem res_6_b : Statement .res_6_b := ⟨rfl, rfl⟩
theorem res_6_c : Statement .res_6_c := ⟨rfl, rfl⟩
theorem res_6_d : Statement .res_6_d := ⟨rfl, rfl⟩
theorem res_6_e : Statement .res_6_e := ⟨rfl, rfl⟩
theorem res_6_h : Statement .res_6_h := ⟨rfl, rfl⟩
theorem res_6_l : Statement .res_6_l := ⟨rfl, rfl⟩
theorem res_6__hl : Statement .res_6__hl := ⟨rfl, rfl⟩
theorem res_6_a : Statement .res_6_a := ⟨rfl, rfl⟩
theorem res_7_b : Statement .res_7_b := ⟨rfl, rfl⟩
theorem res_7_c : Statement .res_7_c := ⟨rfl, rfl⟩
theorem res_7_d : Statement .res_7_d := ⟨rfl, rfl⟩
theorem res_7_e : Statement .res_7_e := ⟨rfl, rfl⟩
theorem res_7_h : Statement .res_7_h := ⟨rfl, rfl⟩
theorem res_7_l : Statement .res_7_l := ⟨rfl, rfl⟩
theorem res_7__hl : Statement .res_7__hl := ⟨rfl, rfl⟩
theorem res_7_a : Statement .res_7_a := ⟨rfl, rfl⟩
theorem set_0_b : Statement .set_0_b := ⟨rfl, rfl⟩
theorem set_0_c : Statement .set_0_c := ⟨rfl, rfl⟩
theorem set_0_d : Statement .set_0_d := ⟨rfl, rfl⟩
theorem set_0_e : Statement .set_0_e := ⟨rfl, rfl⟩
theorem set_0_h : Statement .set_0_h := ⟨rfl, rfl⟩
theorem set_0_l : Statement .set_0_l := ⟨rfl, rfl⟩
theorem set_0__hl : Statement .set_0__hl := ⟨rfl, rfl⟩
theorem set_0_a : Statement .set_0_a := ⟨rfl, rfl⟩
theorem set_1_b : Statement .set_1_b := ⟨rfl, rfl⟩
theorem set_1_c : Statement .set_1_c := ⟨rfl, rfl⟩
theorem set_1_d : Statement .set_1_d := ⟨rfl, rfl⟩
theorem set_1_e : Statement .set_1_e := ⟨rfl, rfl⟩
theorem set_1_h : Statement .set_1_h := ⟨rfl, rfl⟩
theorem set_1_l : Statement .set_1_l := ⟨rfl, rfl⟩
theorem set_1__hl : Statement .set_1__hl := ⟨rfl, rfl⟩
theorem set_1_a : Statement .set_1_a := ⟨rfl, rfl⟩
theorem set_2_b : Statement .set_2_b := ⟨rfl, rfl⟩
theorem set_2_c : Statement .set_2_c := ⟨rfl, rfl⟩
theorem set_2_d : Statement .set_2_d := ⟨rfl, rfl⟩
theorem set_2_e : Statement .set_2_e := ⟨rfl, rfl⟩
theorem set_2_h : Statement .set_2_h := ⟨rfl, rfl⟩
theorem set_2_l : Statement .set_2_l := ⟨rfl, rfl⟩
theorem set_2__hl : Statement .set_2__hl := ⟨rfl, rfl⟩
theorem set_2_a : Statement .set_2_a := ⟨rfl, rfl⟩
theorem set_3_b : Statement .set_3_b := ⟨rfl, rfl⟩
theorem set_3_c : Statement .set_3_c := ⟨rfl, rfl⟩
theorem set_3_d : Statement .set_3_d := ⟨rfl, rfl⟩
theorem set_3_e : Statement .set_3_e := ⟨rfl, rfl⟩
theorem set_3_h : Statement .set_3_h := ⟨rfl, rfl⟩
theorem set_3_l : Statement .set_3_l := ⟨rfl, rfl⟩
theorem set_3__hl : Statement .set_3__hl := ⟨rfl, rfl⟩
theorem set_3_a : Statement .set_3_a := ⟨rfl, rfl⟩
theorem set_4_b : Statement .set_4_b := ⟨rfl, rfl⟩
theorem set_4_c : Statement .set_4_c := ⟨rfl, rfl⟩
theorem set_4_d : Statement .set_4_d := ⟨rfl, rfl⟩
theorem set_4_e : Statement .set_4_e := ⟨rfl, rfl⟩
theorem set_4_h : Statement .set_4_h := ⟨rfl, rfl⟩
theorem set_4_l : Statement .set_4_l := ⟨rfl, rfl⟩
theorem set_4__hl : Statement .set_4__hl := ⟨rfl, rfl⟩
theorem set_4_a : Statement .set_4_a := ⟨rfl, rfl⟩
theorem set_5_b : Statement .set_5_b := ⟨rfl, rfl⟩
theorem set_5_c : Statement .set_5_c := ⟨rfl, rfl⟩
theorem set_5_d : Statement .set_5_d := ⟨rfl, rfl⟩
theorem set_5_e : Statement .set_5_e := ⟨rfl, rfl⟩
theorem set_5_h : Statement .set_5_h := ⟨rfl, rfl⟩
theorem set_5_l : Statement .set_5_l := ⟨rfl, rfl⟩
theorem set_5__hl : Statement .set_5__hl := ⟨rfl, rfl⟩
theorem set_5_a : Statement .set_5_a := ⟨rfl, rfl⟩
theorem set_6_b : Statement .set_6_b := ⟨rfl, rfl⟩
theorem set_6_c : Statement .set_6_c := ⟨rfl, rfl⟩
theorem set_6_d : Statement .set_6_d := ⟨rfl, rfl⟩
theorem set_6_e : Statement .set_6_e := ⟨rfl, rfl⟩
theorem set_6_h : Statement .set_6_h := ⟨rfl, rfl⟩
theorem set_6_l : Statement .set_6_l := ⟨rfl, rfl⟩
theorem set_6__hl : Statement .set_6__hl := ⟨rfl, rfl⟩
theorem set_6_a : Statement .set_6_a := ⟨rfl, rfl⟩
theorem set_7_b : Statement .set_7_b := ⟨rfl, rfl⟩
theorem set_7_c : Statement .set_7_c := ⟨rfl, rfl⟩
theorem set_7_d : Statement .set_7_d := ⟨rfl, rfl⟩
theorem set_7_e : Statement .set_7_e := ⟨rfl, rfl⟩
theorem set_7_h : Statement .set_7_h := ⟨rfl, rfl⟩
theorem set_7_l : Statement .set_7_l := ⟨rfl, rfl⟩
theorem set_7__hl : Statement .set_7__hl := ⟨rfl, rfl⟩
theorem set_7_a : Statement .set_7_a := ⟨rfl, rfl⟩

/-- The statement for every instruction. -/
theorem all (i : Instr) : Statement i := by
  cases i with
  | ld_bc_nn nn => exact ld_bc_nn nn
  | ld_b_n n => exact ld_b_n n
  | ld__nn__sp nn => exact ld__nn__sp nn
  | ld_c_n n => exact ld_c_n n
  | ld_de_nn nn => exact ld_de_nn nn
  | ld_d_n n => exact ld_d_n n
  | jr_e e => exact jr_e e
  | ld_e_n n => exact ld_e_n n
  | jr_nz_e e => exact jr_nz_e e
  | ld_hl_nn nn => exact ld_hl_nn nn
  | ld_h_n n => exact ld_h_n n
  | jr_z_e e => exact jr_z_e e
  | ld_l_n n => exact ld_l_n n
  | jr_nc_e e => exact jr_nc_e e
  | ld_sp_nn nn => exact ld_sp_nn nn
  | ld__hl__n n => exact ld__hl__n n
  | jr_c_e e => exact jr_c_e e
  | ld_a_n n => exact ld_a_n n
  | jp_nz_nn nn => exact jp_nz_nn nn
  | jp_nn nn => exact jp_nn nn
  | call_nz_nn nn => exact call_nz_nn nn
  | add_a_n n => exact add_a_n n
  | jp_z_nn nn => exact jp_z_nn nn
  | call_z_nn nn => exact call_z_nn nn
  | call_nn nn => exact call_nn nn
  | adc_a_n n => exact adc_a_n n
  | jp_nc_nn nn => exact jp_nc_nn nn
  | call_nc_nn nn => exact call_nc_nn nn
  | sub_n n => exact sub_n n
  | jp_c_nn nn => exact jp_c_nn nn
  | call_c_nn nn => exact call_c_nn nn
  | sbc_a_n n => exact sbc_a_n n
  | ld__n__a n => exact ld__n__a n
  | and_n n => exact and_n n
  | add_sp_e e => exact add_sp_e e
  | ld__nn__a nn => exact ld__nn__a nn
  | xor_n n => exact xor_n n
  | ld_a__n n => exact ld_a__n n
  | or_n n => exact or_n n
  | ldhl_sp_e e => exact ldhl_sp_e e
  | ld_a__nn nn => exact ld_a__nn nn
  | cp_n n => exact cp_n n
  | nop => exact nop
  | ld__bc__a => exact ld__bc__a
  | inc_bc => exact inc_bc
  | inc_b => exact inc_b
  | dec_b => exact dec_b
  | rlca => exact rlca
  | add_hl_bc => exact add_hl_bc
  | ld_a__bc => exact ld_a__bc
  | dec_bc => exact dec_bc
  | inc_c => exact inc_c
  | dec_c => exact dec_c
  | rrca => exact rrca
  | stop => exact stop
  | ld__de__a => exact ld__de__a
  | inc_de => exact inc_de
  | inc_d => exact inc_d
  | dec_d => exact dec_d
  | rla => exact rla
  | add_hl_de => exact add_hl_de
  | ld_a__de => exact ld_a__de
  | dec_de => exact dec_de
  | inc_e => exact inc_e
  | dec_e => exact dec_e
  | rra => exact rra
  | ld__hli__a => exact ld__hli__a
  | inc_hl => exact inc_hl
  | inc_h => exact inc_h
  | dec_h => exact dec_h
  | daa => exact daa
  | add_hl_hl => exact add_hl_hl
  | ld_a__hli => exact ld_a__hli
  | dec_hl => exact dec_hl
  | inc_l => exact inc_l
  | dec_l => exact dec_l
  | cpl => exact cpl
  | ld__hld__a => exact ld__hld__a
  | inc_sp => exact inc_sp
  | inc__hl => exact inc__hl
  | dec__hl => exact dec__hl
  | scf => exact scf
  | add_hl_sp => exact add_hl_sp
  | ld_a__hld => exact ld_a__hld
  | dec_sp => exact dec_sp
  | inc_a => exact inc_a
  | dec_a => exact dec_a
  | ccf => exact ccf
  | ld_b_b => exact ld_b_b
  | ld_b_c => exact ld_b_c
  | ld_b_d => exact ld_b_d
  | ld_b_e => exact ld_b_e
  | ld_b_h => exact ld_b_h
  | ld_b_l => exact ld_b_l
  | ld_b__hl => exact ld_b__hl
  | ld_b_a => exact ld_b_a
  | ld_c_b => exact ld_c_b
  | ld_c_c => exact ld_c_c
  | ld_c_d => exact ld_c_d
  | ld_c_e => exact ld_c_e
  | ld_c_h => exact ld_c_h
  | ld_c_l => exact ld_c_l
  | ld_c__hl => exact ld_c__hl
  | ld_c_a => exact ld_c_a
  | ld_d_b => exact ld_d_b
  | ld_d_c => exact ld_d_c
  | ld_d_d => exact ld_d_d
  | ld_d_e => exact ld_d_e
  | ld_d_h => exact ld_d_h
  | ld_d_l => exact ld_d_l
  | ld_d__hl => exact ld_d__hl
  | ld_d_a => exact ld_d_a
  | ld_e_b => exact ld_e_b
  | ld_e_c => exact ld_e_c
  | ld_e_d => exact ld_e_d
  | ld_e_e => exact ld_e_e
  | ld_e_h => exact ld_e_h
  | ld_e_l => exact ld_e_l
  | ld_e__hl => exact ld_e__hl
  | ld_e_a => exact ld_e_a
  | ld_h_b => exact ld_h_b
  | ld_h_c => exact ld_h_c
  | ld_h_d => exact ld_h_d
  | ld_h_e => exact ld_h_e
  | ld_h_h => exact ld_h_h
  | ld_h_l => exact ld_h_l
  | ld_h__hl => exact ld_h__hl
  | ld_h_a => exact ld_h_a
  | ld_l_b => exact ld_l_b
  | ld_l_c => exact ld_l_c
  | ld_l_d => exact ld_l_d
  | ld_l_e => exact ld_l_e
  | ld_l_h => exact ld_l_h
  | ld_l_l => exact ld_l_l
  | ld_l__hl => exact ld_l__hl
  | ld_l_a => exact ld_l_a
  | ld__hl__b => exact ld__hl__b
  | ld__hl__c => exact ld__hl__c
  | ld__hl__d => exact ld__hl__d
  | ld__hl__e => exact ld__hl__e
  | ld__hl__h => exact ld__hl__h
  | ld__hl__l => exact ld__hl__l
  | halt => exact halt
  | ld__hl__a => exact ld__hl__a
  | ld_a_b => exact ld_a_b
  | ld_a_c => exact ld_a_c
  | ld_a_d => exact ld_a_d
  | ld_a_e => exact ld_a_e
  | ld_a_h => exact ld_a_h
  | ld_a_l => exact ld_a_l
  | ld_a__hl => exact ld_a__hl
  | ld_a_a => exact ld_a_a
  | add_a_b => exact add_a_b
  | add_a_c => exact add_a_c
  | add_a_d => exact add_a_d
  | add_a_e => exact add_a_e
  | add_a_h => exact add_a_h
  | add_a_l => exact add_a_l
  | add_a__hl => exact add_a__hl
  | add_a_a => exact add_a_a
  | adc_a_b => exact adc_a_b
  | adc_a_c => exact adc_a_c
  | adc_a_d => exact adc_a_d
  | adc_a_e => exact adc_a_e
  | adc_a_h => exact adc_a_h
  | adc_a_l => exact adc_a_l
  | adc_a__hl => exact adc_a__hl
  | adc_a_a => exact adc_a_a
  | sub_b => exact sub_b
  | sub_c => exact sub_c
  | sub_d => exact sub_d
  | sub_e => exact sub_e
  | sub_h => exact sub_h
  | sub_l => exact sub_l
  | sub__hl => exact sub__hl
  | sub_a => exact sub_a
  | sbc_a_b => exact sbc_a_b
  | sbc_a_c => exact sbc_a_c
  | sbc_a_d => exact sbc_a_d
  | sbc_a_e => exact sbc_a_e
  | sbc_a_h => exact sbc_a_h
  | sbc_a_l => exact sbc_a_l
  | sbc_a__hl => exact sbc_a__hl
  | sbc_a_a => exact sbc_a_a
  | and_b => exact and_b
  | and_c => exact and_c
  | and_d => exact and_d
  | and_e => exact and_e
  | and_h => exact and_h
  | and_l => exact and_l
  | and__hl => exact and__hl
  | and_a => exact and_a
  | xor_b => exact xor_b
  | xor_c => exact xor_c
  | xor_d => exact xor_d
  | xor_e => exact xor_e
  | xor_h => exact xor_h
  | xor_l => exact xor_l
  | xor__hl => exact xor__hl
  | xor_a => exact xor_a
  | or_b => exact or_b
  | or_c => exact or_c
  | or_d => exact or_d
  | or_e => exact or_e
  | or_h => exact or_h
  | or_l => exact or_l
  | or__hl => exact or__hl
  | or_a => exact or_a
  | cp_b => exact cp_b
  | cp_c => exact cp_c
  | cp_d => exact cp_d
  | cp_e => exact cp_e
  | cp_h => exact cp_h
  | cp_l => exact cp_l
  | cp__hl => exact cp__hl
  | cp_a => exact cp_a
  | ret_nz => exact ret_nz
  | pop_bc => exact pop_bc
  | push_bc => exact push_bc
  | rst_00h => exact rst_00h
  | ret_z => exact ret_z
  | ret => exact ret
  | rst_08h => exact rst_08h
  | ret_nc => exact ret_nc
  | pop_de => exact pop_de
  | undefined_0xd3 => exact undefined_0xd3
  | push_de => exact push_de
  | rst_10h => exact rst_10h
  | ret_c => exact ret_c
  | reti => exact reti
  | undefined_0xdb => exact undefined_0xdb
  | undefined_0xdd => exact undefined_0xdd
  | rst_18h => exact rst_18h
  | pop_hl => exact pop_hl
  | ld__c__a => exact ld__c__a
  | undefined_0xe3 => exact undefined_0xe3
  | undefined_0xe4 => exact undefined_0xe4
  | push_hl => exact push_hl
  | rst_20h => exact rst_20h
  | jp__hl => exact jp__hl
  | undefined_0xeb => exact undefined_0xeb
  | undefined_0xec => exact undefined_0xec
  | undefined_0xed => exact undefined_0xed
  | rst_28h => exact rst_28h
  | pop_af => exact pop_af
  | ld_a__c => exact ld_a__c
  | di => exact di
  | undefined_0xf4 => exact undefined_0xf4
  | push_af => exact push_af
  | rst_30h => exact rst_30h
  | ld_sp_hl => exact ld_sp_hl
  | ei => exact ei
  | undefined_0xfc => exact undefined_0xfc
  | undefined_0xfd => exact undefined_0xfd
  | rst_38h => exact rst_38h
  | rlc_b => exact rlc_b
  | rlc_c => exact rlc_c
  | rlc_d => exact rlc_d
  | rlc_e => exact rlc_e
  | rlc_h => exact rlc_h
  | rlc_l => exact rlc_l
  | rlc__hl => exact rlc__hl
  | rlc_a => exact rlc_a
  | rrc_b => exact rrc_b
  | rrc_c => exact rrc_c
  | rrc_d => exact rrc_d
  | rrc_e => exact rrc_e
  | rrc_h => exact rrc_h
  | rrc_l => exact rrc_l
  | rrc__hl => exact rrc__hl
  | rrc_a => exact rrc_a
  | rl_b => exact rl_b
  | rl_c => exact rl_c
  | rl_d => exact rl_d
  | rl_e => exact rl_e
  | rl_h => exact rl_h
  | rl_l => exact rl_l
  | rl__hl => exact rl__hl
  | rl_a => exact rl_a
  | rr_b => exact rr_b
  | rr_c => exact rr_c
  | rr_d => exact rr_d
  | rr_e => exact rr_e
  | rr_h => exact rr_h
  | rr_l => exact rr_l
  | rr__hl => exact rr__hl
  | rr_a => exact rr_a
  | sla_b => exact sla_b
  | sla_c => exact sla_c
  | sla_d => exact sla_d
  | sla_e => exact sla_e
  | sla_h => exact sla_h
  | sla_l => exact sla_l
  | sla__hl => exact sla__hl
  | sla_a => exact sla_a
  | sra_b => exact sra_b
  | sra_c => exact sra_c
  | sra_d => exact sra_d
  | sra_e => exact sra_e
  | sra_h => exact sra_h
  | sra_l => exact sra_l
  | sra__hl => exact sra__hl
  | sra_a => exact sra_a
  | swap_b => exact swap_b
  | swap_c => exact swap_c
  | swap_d => exact swap_d
  | swap_e => exact swap_e
  | swap_h => exact swap_h
  | swap_l => exact swap_l
  | swap__hl => exact swap__hl
  | swap_a => exact swap_a
  | srl_b => exact srl_b
  | srl_c => exact srl_c
  | srl_d => exact srl_d
  | srl_e => exact srl_e
  | srl_h => exact srl_h
  | srl_l => exact srl_l
  | srl__hl => exact srl__hl
  | srl_a => exact srl_a
  | bit_0_b => exact bit_0_b
  | bit_0_c => exact bit_0_c
  | bit_0_d => exact bit_0_d
  | bit_0_e => exact bit_0_e
  | bit_0_h => exact bit_0_h
  | bit_0_l => exact bit_0_l
  | bit_0__hl => exact bit_0__hl
  | bit_0_a => exact bit_0_a
  | bit_1_b => exact bit_1_b
  | bit_1_c => exact bit_1_c
  | bit_1_d => exact bit_1_d
  | bit_1_e => exact bit_1_e
  | bit_1_h => exact bit_1_h
  | bit_1_l => exact bit_1_l
  | bit_1__hl => exact bit_1__hl
  | bit_1_a => exact bit_1_a
  | bit_2_b => exact bit_2_b
  | bit_2_c => exact bit_2_c
  | bit_2_d => exact bit_2_d
  | bit_2_e => exact bit_2_e
  | bit_2_h => exact bit_2_h
  | bit_2_l => exact bit_2_l
  | bit_2__hl => exact bit_2__hl
  | bit_2_a => exact bit_2_a
  | bit_3_b => exact bit_3_b
  | bit_3_c => exact bit_3_c
  | bit_3_d => exact bit_3_d
  | bit_3_e => exact bit_3_e
  | bit_3_h => exact bit_3_h
  | bit_3_l => exact bit_3_l
  | bit_3__hl => exact bit_3__hl
  | bit_3_a => exact bit_3_a
  | bit_4_b => exact bit_4_b
  | bit_4_c => exact bit_4_c
  | bit_4_d => exact bit_4_d
  | bit_4_e => exact bit_4_e
  | bit_4_h => exact bit_4_h
  | bit_4_l => exact bit_4_l
  | bit_4__hl => exact bit_4__hl
  | bit_4_a => exact bit_4_a
  | bit_5_b => exact bit_5_b
  | bit_5_c => exact bit_5_c
  | bit_5_d => exact bit_5_d
  | bit_5_e => exact bit_5_e
  | bit_5_h => exact bit_5_h
  | bit_5_l => exact bit_5_l
  | bit_5__hl => exact bit_5__hl
  | bit_5_a => exact bit_5_a
  | bit_6_b => exact bit_6_b
  | bit_6_c => exact bit_6_c
  | bit_6_d => exact bit_6_d
  | bit_6_e => exact bit_6_e
  | bit_6_h => exact bit_6_h
  | bit_6_l => exact bit_6_l
  | bit_6__hl => exact bit_6__hl
  | bit_6_a => exact bit_6_a
  | bit_7_b => exact bit_7_b
  | bit_7_c => exact bit_7_c
  | bit_7_d => exact bit_7_d
  | bit_7_e => exact bit_7_e
  | bit_7_h => exact bit_7_h
  | bit_7_l => exact bit_7_l
  | bit_7__hl => exact bit_7__hl
  | bit_7_a => exact bit_7_a
  | res_0_b => exact res_0_b
  | res_0_c => exact res_0_c
  | res_0_d => exact res_0_d
  | res_0_e => exact res_0_e
  | res_0_h => exact res_0_h
  | res_0_l => exact res_0_l
  | res_0__hl => exact res_0__hl
  | res_0_a => exact res_0_a
  | res_1_b => exact res_1_b
  | res_1_c => exact res_1_c
  | res_1_d => exact res_1_d
  | res_1_e => exact res_1_e
  | res_1_h => exact res_1_h
  | res_1_l => exact res_1_l
  | res_1__hl => exact res_1__hl
  | res_1_a => exact res_1_a
  | res_2_b => exact res_2_b
  | res_2_c => exact res_2_c
  | res_2_d => exact res_2_d
  | res_2_e => exact res_2_e
  | res_2_h => exact res_2_h
  | res_2_l => exact res_2_l
  | res_2__hl => exact res_2__hl
  | res_2_a => exact res_2_a
  | res_3_b => exact res_3_b
  | res_3_c => exact res_3_c
  | res_3_d => exact res_3_d
  | res_3_e => exact res_3_e
  | res_3_h => exact res_3_h
  | res_3_l => exact res_3_l
  | res_3__hl => exact res_3__hl
  | res_3_a => exact res_3_a
  | res_4_b => exact res_4_b
  | res_4_c => exact res_4_c
  | res_4_d => exact res_4_d
  | res_4_e => exact res_4_e
  | res_4_h => exact res_4_h
  | res_4_l => exact res_4_l
  | res_4__hl => exact res_4__hl
  | res_4_a => exact res_4_a
  | res_5_b => exact res_5_b
  | res_5_c => exact res_5_c
  | res_5_d => exact res_5_d
  | res_5_e => exact res_5_e
  | res_5_h => exact res_5_h
  | res_5_l => exact res_5_l
  | res_5__hl => exact res_5__hl
  | res_5_a => exact res_5_a
  | res_6_b => exact res_6_b
  | res_6_c => exact res_6_c
  | res_6_d => exact res_6_d
  | res_6_e => exact res_6_e
  | res_6_h => exact res_6_h
  | res_6_l => exact res_6_l
  | res_6__hl => exact res_6__hl
  | res_6_a => exact res_6_a
  | res_7_b => exact res_7_b
  | res_7_c => exact res_7_c
  | res_7_d => exact res_7_d
  | res_7_e => exact res_7_e
  | res_7_h => exact res_7_h
  | res_7_l => exact res_7_l
  | res_7__hl => exact res_7__hl
  | res_7_a => exact res_7_a
  | set_0_b => exact set_0_b
  | set_0_c => exact set_0_c
  | set_0_d => exact set_0_d
  | set_0_e => exact set_0_e
  | set_0_h => exact set_0_h
  | set_0_l => exact set_0_l
  | set_0__hl => exact set_0__hl
  | set_0_a => exact set_0_a
  | set_1_b => exact set_1_b
  | set_1_c => exact set_1_c
  | set_1_d => exact set_1_d
  | set_1_e => exact set_1_e
  | set_1_h => exact set_1_h
  | set_1_l => exact set_1_l
  | set_1__hl => exact set_1__hl
  | set_1_a => exact set_1_a
  | set_2_b => exact set_2_b
  | set_2_c => exact set_2_c
  | set_2_d => exact set_2_d
  | set_2_e => exact set_2_e
  | set_2_h => exact set_2_h
  | set_2_l => exact set_2_l
  | set_2__hl => exact set_2__hl
  | set_2_a => exact set_2_a
  | set_3_b => exact set_3_b
  | set_3_c => exact set_3_c
  | set_3_d => exact set_3_d
  | set_3_e => exact set_3_e
  | set_3_h => exact set_3_h
  | set_3_l => exact set_3_l
  | set_3__hl => exact set_3__hl
  | set_3_a => exact set_3_a
  | set_4_b => exact set_4_b
  | set_4_c => exact set_4_c
  | set_4_d => exact set_4_d
  | set_4_e => exact set_4_e
  | set_4_h => exact set_4_h
  | set_4_l => exact set_4_l
  | set_4__hl => exact set_4__hl
  | set_4_a => exact set_4_a
  | set_5_b => exact set_5_b
  | set_5_c => exact set_5_c
  | set_5_d => exact set_5_d
  | set_5_e => exact set_5_e
  | set_5_h => exact set_5_h
  | set_5_l => exact set_5_l
  | set_5__hl => exact set_5__hl
  | set_5_a => exact set_5_a
  | set_6_b => exact set_6_b
  | set_6_c => exact set_6_c
  | set_6_d => exact set_6_d
  | set_6_e => exact set_6_e
  | set_6_h => exact set_6_h
  | set_6_l => exact set_6_l
  | set_6__hl => exact set_6__hl
  | set_6_a => exact set_6_a
  | set_7_b => exact set_7_b
  | set_7_c => exact set_7_c
  | set_7_d => exact set_7_d
  | set_7_e => exact set_7_e
  | set_7_h => exact set_7_h
  | set_7_l => exact set_7_l
  | set_7__hl => exact set_7__hl
  | set_7_a => exact set_7_a

end Sys2Proof.Laws.RoundTrip
end

