-- ==== Sys2Proof/Laws/Results.lean ====
section
/-! SUPPORT. What the shared operations compute: the flag functions in the terms of R170, R195, R197 and R214, the stack
primitives, the read-modify-write at HL. -/

namespace Sys2Proof.Machine

theorem cellOf_setRegs (s : State) (r : Regs) (a : Word) : (s.setRegs r).cellOf a = s.cellOf a := rfl
theorem cellsWritten_setRegs (s : State) (r : Regs) (a : Word) : (s.setRegs r).cellsWritten a = s.cellsWritten a := rfl
theorem cellOf_setMem (s : State) (m) (a : Word) : (s.setMem m).cellOf a = s.cellOf a := rfl
theorem peek_setRegs (s : State) (r : Regs) (a : Word) : (s.setRegs r).peek a = s.peek a := rfl

/-- Two bytes of RAM at different addresses, not each other's mirror, lie in different cells. -/
theorem cell_ne (s : State) (a b : Word) (k j : Nat) (hab : a.toNat ≠ b.toNat) (hmir : a.toNat ≠ b.toNat + 0x2000) (hmir2 : b.toNat ≠ a.toNat + 0x2000) (h1 : s.cellOf a = some k) (h2 : s.cellOf b = some j) : k ≠ j := by
  simp only [State.cellOf, storageKey] at h1 h2
  repeat' split at h1
  all_goals repeat' split at h2
  all_goals try simp at h1
  all_goals try simp at h2
  all_goals omega

theorem sub_one_ne (v : Word) : (v-1).toNat ≠ (v-2).toNat ∧ (v-1).toNat ≠ (v-2).toNat + 0x2000 ∧ (v-2).toNat ≠ (v-1).toNat + 0x2000 := by
  refine ⟨?_,?_,?_⟩ <;> bv_omega

theorem add_one_ne (v : Word) : (v).toNat ≠ (v+1).toNat ∧ (v).toNat ≠ (v+1).toNat + 0x2000 ∧ (v+1).toNat ≠ (v).toNat + 0x2000 := by
  refine ⟨?_,?_,?_⟩ <;> bv_omega

/-- A push of a byte stores to no cell but those of SP - 1 (R15). -/
theorem push8_mem_other (v : Byte) (s : State) (k : Nat) (h : k ∉ s.cellsWritten (s.regs.sp - 1)) : (push8 v s).mem.read k = s.mem.read k := by
  simp only [push8]
  rw [memWrite_mem_other _ _ _ _ (by simpa [State.setSp, cellsWritten_setRegs] using h)]; rfl

/-- A push of a byte to RAM (R15). -/
theorem push8_cell (v : Byte) (s : State) (k : Nat) (h : s.cellOf (s.regs.sp - 1) = some k) :
   push8 v s = (tick (s.setSp (s.regs.sp - 1))).setMem (s.mem.write k v) := by
  simp only [push8]
  rw [memWrite_of_cell _ _ _ k (by simpa [State.setSp, cellOf_setRegs] using h)]; simp

/-- `Push16(v)` is its two bus writes, high byte first, and SP two lower (R15). -/
theorem push16_eq (v : Word) (s : State) :
    push16 v s = (pushedBytes v s.regs.sp s).setRegs { s.regs with sp := s.regs.sp - 2 } := by
  simp only [push16, push8, memWrite, pushedBytes, State.setSp]
  simp only [tick_setRegs, busWrite_setRegs]
  simp [State.setRegs, Word.sub_one_one, loByte, hiByte]
/-- What `Push16` leaves in memory (R15). -/
theorem push16_pushes (v : Word) (s u : State) (hr : u.regs = s.regs) (hm : u.mem = s.mem) (hs : u.slots = s.slots)
   (hp : u.params = s.params) : PushesBytes v s u (push16 v u) := by
  have hc : ∀ a, u.cellOf a = s.cellOf a := fun a => by simp [State.cellOf, State.handler, hs, hp]
  have hw : ∀ a, u.cellsWritten a = s.cellsWritten a := fun a => by
    have hh : u.handler a = s.handler a := by simp [State.handler, hs]
    unfold State.cellsWritten; rw [hc, hh]
  constructor
  · intro k h1 h2
    simp only [push16]
    rw [push8_mem_other _ _ _ (by simpa [hr, Word.sub_one_one] using h2), push8_mem_other _ _ _ (by rw [hw, hr]; exact h1), hm]
  · intro k1 k2 h1 h2
    have hne : k1 ≠ k2 := cell_ne s _ _ _ _ (sub_one_ne _).1 (sub_one_ne _).2.1 (sub_one_ne _).2.2 h1 h2
    have e1 := push8_cell (hiByte v) u k1 (by rw [hc, hr]; exact h1)
    have hsp : (push8 (hiByte v) u).regs.sp = s.regs.sp - 1 := by rw [push8_regs, hr]
    have e2 : push8 (loByte v) (push8 (hiByte v) u) = _ := push8_cell (loByte v) (push8 (hiByte v) u) k2 (by
      rw [hsp, e1, cellOf_setMem, tick_cellOf, State.setSp, cellOf_setRegs, hc]
      have := Word.sub_one_one s.regs.sp
      rw [show s.regs.sp - 1 - 1 = s.regs.sp - 2 from this]; exact h2)
    simp only [push16]
    rw [e2, e1]
    simp [Memory.read_write, hne]

/-- With the stack in RAM a push costs two M-cycles and moves no setting. -/
theorem push16_clock (v : Word) (u : State) (k1 k2 : Nat) (h1 : u.cellOf (u.regs.sp - 1) = some k1) (h2 : u.cellOf (u.regs.sp - 2) = some k2) :
   (push16 v u).clock = u.clock + 8 ∧ (push16 v u).settings = u.settings := by
  have e1 := push8_cell (hiByte v) u k1 h1
  have e2 : push8 (loByte v) (push8 (hiByte v) u) = _ := push8_cell (loByte v) (push8 (hiByte v) u) k2 (by
      rw [push8_regs, e1, cellOf_setMem, tick_cellOf, State.setSp, cellOf_setRegs]
      have := Word.sub_one_one u.regs.sp
      rw [show u.regs.sp - 1 - 1 = u.regs.sp - 2 from this]; exact h2)
  simp only [push16]
  rw [e2, e1]
  constructor
  · simp
  · rw [show ∀ (s : State) m, (s.setMem m).settings = s.settings from fun _ _ => rfl, tick_settings]
    rw [show ∀ (s : State) m, (s.setSp m).settings = s.settings from fun _ _ => rfl]
    rw [show ∀ (s : State) m, (s.setMem m).settings = s.settings from fun _ _ => rfl, tick_settings]
    rfl

/-- The word that `Pop16` answers (R15). -/
theorem pop16_eq (s : State) : (pop16 s).1 = joinBytes (memRead (s.regs.sp + 1) ((memRead s.regs.sp s).2.setSp (s.regs.sp + 1))).1 (memRead s.regs.sp s).1 := by
  simp [pop16, pop8]

theorem hi_join (a b : Byte) : hiByte (joinBytes a b) = a := by
  apply BitVec.eq_of_getLsbD_eq
  intro i hi
  simp only [joinBytes, hiByte, BitVec.getLsbD_append, BitVec.getLsbD_extractLsb']
  have h2 : ¬ (8 + i < 8) := by omega
  simp [h2, hi]

theorem lo_join (a b : Byte) : loByte (joinBytes a b) = b := by
  apply BitVec.eq_of_getLsbD_eq
  intro i hi
  simp only [joinBytes, loByte, BitVec.getLsbD_append, BitVec.getLsbD_extractLsb']
  simp [hi]

theorem join_hi_lo (v : Word) : joinBytes (hiByte v) (loByte v) = v := by
  apply BitVec.eq_of_getLsbD_eq
  intro i hi
  simp only [joinBytes, hiByte, loByte, BitVec.getLsbD_append, BitVec.getLsbD_extractLsb']
  by_cases h : i < 8
  · simp [h]
  · have h2 : i - 8 < 8 := by omega
    have h3 : 8 + (i - 8) = i := by omega
    simp [h, h2, h3]

/-- A byte of RAM reads as its cell. -/
theorem peek_of_cell (s : State) (a : Word) (k : Nat) (h : s.cellOf a = some k) : s.peek a = some (s.mem.read k) :=
  storageRead_of_key _ _ _ _ h

/-- `add8` in the terms of R170. -/
theorem add8_spec (a b : Byte) (c : Bool) : AddsTo a b c.toNat (add8 a b c).res (add8 a b c).flags := by
  refine ⟨?_, ?_, rfl, ?_, ?_⟩
  · simp [add8, carryNat]
  · simp [add8]
  · simp only [add8, carryNat, lowNibble, decide_eq_true_eq, gt_iff_lt]
  · simp only [add8, carryNat, decide_eq_true_eq, gt_iff_lt]

/-- `sub8` in the terms of R170. -/
theorem sub8_spec (a b : Byte) (c : Bool) : SubtractsTo a b c.toNat (sub8 a b c).res (sub8 a b c).flags := by
  refine ⟨?_, ?_, rfl, ?_, ?_⟩
  · simp only [sub8, carryNat, BitVec.toNat_sub, BitVec.toNat_ofNat]
    have := a.isLt; have := b.isLt
    have : c.toNat ≤ 1 := by cases c <;> simp
    omega
  · simp [sub8]
  · exact decide_eq_true_iff
  · exact decide_eq_true_iff

/-- The eight accumulator operations (R170 to R194). -/
theorem alu_spec (op : AluOp) (a b : Byte) (cf : Bool) : AluLeaves op a b cf (aluApply op a b cf).res (aluApply op a b cf).flags := by
  have hc : (if cf = true then 1 else 0) = cf.toNat := by cases cf <;> rfl
  cases op <;> simp only [AluLeaves, aluApply, hc]
  · exact add8_spec a b false
  · exact add8_spec a b cf
  · exact sub8_spec a b false
  · exact sub8_spec a b cf
  · refine ⟨fun i hi => by simp [and8, logic8], by simp [logicFlags, and8, logic8]⟩
  · refine ⟨fun i hi => by simp [xor8, logic8], by simp [logicFlags, xor8, logic8]⟩
  · refine ⟨fun i hi => by simp [or8, logic8], by simp [logicFlags, or8, logic8]⟩
  · exact ⟨trivial, _, sub8_spec a b false⟩

/-- `INC` on a byte (R195). -/
theorem inc_spec (v : Byte) (f : Flags) : CountsTo true v f (inc8 v f).res (inc8 v f).flags := by
  simp [CountsTo, inc8, lowNibble]

/-- `DEC` on a byte (R197). -/
theorem dec_spec (v : Byte) (f : Flags) : CountsTo false v f (dec8 v f).res (dec8 v f).flags := by
  simp [CountsTo, dec8, lowNibble]

/-- A read-modify-write at HL (R52). -/
theorem modify_spec (g : Byte → Flags → Alu8) (s : State) :
   RewritesByteAtHL s (modifyHL g s) (memRead s.hl s).1 (g (memRead s.hl s).1 s.regs.f).res ∧ (modifyHL g s).regs = { s.regs with f := (g (memRead s.hl s).1 s.regs.f).flags } := by
  refine ⟨⟨rfl, ?_, ?_, ?_, ⟨⟨by simp, by simp, by simp, by simp⟩, ?_⟩, ?_⟩, modifyHL_regs g s⟩
  · intro b hb; exact congrArg Prod.fst (memRead_of_peek _ _ _ hb)
  · rw [modifyHL_regs]
  · rw [modifyHL_regs]; simp [modifyHL, State.hl, State.pair, Regs.getPair, State.setFlags]
  · intro k hk
    have := memWrite_mem_other (joinBytes s.regs.h s.regs.l) (g (memRead s.hl s).1 s.regs.f).res _ k hk
    simpa [modifyHL, State.hl, State.pair, Regs.getPair] using this
  · intro k hk
    have hp : s.peek (joinBytes s.regs.h s.regs.l) = some (s.mem.read k) := peek_of_cell s _ k hk
    have e : memRead s.hl s = (s.mem.read k, tick s) := memRead_of_peek _ _ _ hp
    have e2 : memWrite s.hl (g (s.mem.read k) s.regs.f).res (tick s) = _ := memWrite_of_cell s.hl (g (s.mem.read k) s.regs.f).res (tick s) k (by rw [tick_cellOf]; exact hk)
    have em : modifyHL g s = (memWrite s.hl (g (s.mem.read k) s.regs.f).res (tick s)).setFlags (g (s.mem.read k) s.regs.f).flags := by
      simp [modifyHL, e]
    rw [em, e2, e]
    refine ⟨by simp, by simp, ?_⟩
    rw [← tick_settings s, ← tick_settings (tick s)]; rfl

/-- A register after a write of it and of F. -/
theorem set8_get8 (g : Regs) (r : Reg8) (v : Byte) (f : Flags) : ({ g.set8 r v with f := f } : Regs).get8 r = v := by cases r <;> rfl

/-- A bit of a concatenation eight bits wide. -/
theorem append_bit (n m : Nat) (x : BitVec n) (y : BitVec m) (i : Nat) (h : n + m = 8) :
    BitVec.getLsbD (w := 8) ((x ++ y).cast h) i = if i < m then y.getLsbD i else x.getLsbD (i - m) := by
  rw [BitVec.getLsbD_cast, BitVec.getLsbD_append]

/-- A left shift bit by bit (R214). -/
theorem shiftLeft_bit (v : Byte) (b : Bool) (i : Nat) (hi : i < 8) :
    (shiftLeft v b).res.getLsbD i = if i = 0 then b else v.getLsbD (i - 1) := by
  refine (append_bit 7 1 (v.extractLsb' 0 7) (BitVec.ofBool b) i rfl).trans ?_
  by_cases h : i = 0
  · simp [h]
  · have h1 : ¬ i < 1 := by omega
    have h2 : i - 1 < 7 := by omega
    simp [h, h2]

/-- A right shift bit by bit (R214). -/
theorem shiftRight_bit (v : Byte) (b : Bool) (i : Nat) (hi : i < 8) :
    (shiftRight v b).res.getLsbD i = if i = 7 then b else v.getLsbD (i + 1) := by
  refine (append_bit 1 7 (BitVec.ofBool b) (v.extractLsb' 1 7) i rfl).trans ?_
  by_cases h : i = 7
  · simp [h]
  · have h2 : i < 7 := by omega
    simp [h, h2, Nat.add_comm]

/-- The eight rotates and shifts bit by bit (R214). -/
theorem shift_spec (op : ShiftOp) (v : Byte) (cf : Bool) :
    ShiftLeaves op v cf (shiftApply op v cf).res (shiftApply op v cf).co := by
  cases op <;> refine ⟨rfl, fun i hi => ?_⟩
  · refine (shiftLeft_bit v _ i hi).trans ?_
    by_cases h : i = 0
    · subst h; rfl
    · rw [if_neg h]; congr 1; omega
  · refine (shiftRight_bit v _ i hi).trans ?_
    by_cases h : i = 7
    · subst h; rfl
    · rw [if_neg h]; congr 1; omega
  · exact shiftLeft_bit v _ i hi
  · exact shiftRight_bit v _ i hi
  · exact shiftLeft_bit v _ i hi
  · exact shiftRight_bit v _ i hi
  · refine (append_bit 4 4 (v.extractLsb' 0 4) (v.extractLsb' 4 4) i rfl).trans ?_
    by_cases h : i < 4
    · have e : (i + 4) % 8 = 4 + i := by omega
      simp [h, e]
    · have e : (i + 4) % 8 = i - 4 := by omega
      have e2 : i - 4 < 4 := by omega
      simp [h, e, e2]
  · exact shiftRight_bit v _ i hi

/-- `RES` bit by bit (R233). -/
theorem bits_clear (b : Code3) (v : Byte) (i : Nat) (hi : i < 8) : (clearBit b v).getLsbD i = if i = b.val then false else v.getLsbD i := by
  cases b <;> rcases i with _ | _ | _ | _ | _ | _ | _ | _ | i <;> first | omega | simp [clearBit, bitMask, Code3.val]

/-- `SET` bit by bit (R235). -/
theorem bits_raise (b : Code3) (v : Byte) (i : Nat) (hi : i < 8) : (raiseBit b v).getLsbD i = if i = b.val then true else v.getLsbD i := by
  cases b <;> rcases i with _ | _ | _ | _ | _ | _ | _ | _ | i <;> first | omega | simp [raiseBit, bitMask, Code3.val]

/-- A store starts at most one OAM DMA. -/
theorem stall_cases (s : State) (a : Word) : ∃ n, n ≤ 1 ∧ s.stallCycles a = n * s.params.dmaStallMCycles := by
  simp only [State.stallCycles]; split
  · exact ⟨1, by omega, by simp⟩
  · exact ⟨0, by omega, by simp⟩

/-- What a store costs: one M-cycle, and the stall where it starts an OAM DMA (R377). -/
theorem write_spent (a : Word) (v : Byte) (s : State) : ∃ n, n ≤ 1 ∧ (memWrite a v s).clock = s.clock + 4 + 4 * (n * s.params.dmaStallMCycles) := by
  obtain ⟨n, h1, h2⟩ := stall_cases s a
  exact ⟨n, h1, by rw [memWrite_clock, h2]; omega⟩

/-- What `Push16` costs. -/
theorem push16_spent (v : Word) (s : State) : ∃ n, n ≤ 2 ∧ (push16 v s).clock = s.clock + 8 + 4 * (n * s.params.dmaStallMCycles) := by
  obtain ⟨n, h1, h2⟩ := write_spent (s.regs.sp - 1) (hiByte v) (s.setSp (s.regs.sp - 1))
  obtain ⟨m, h3, h4⟩ := write_spent ((push8 (hiByte v) s).regs.sp - 1) (loByte v) ((push8 (hiByte v) s).setSp ((push8 (hiByte v) s).regs.sp - 1))
  refine ⟨n + m, by omega, ?_⟩
  have e : (push16 v s).clock = (memWrite ((push8 (hiByte v) s).regs.sp - 1) (loByte v) ((push8 (hiByte v) s).setSp ((push8 (hiByte v) s).regs.sp - 1))).clock := rfl
  have e2 : (push8 (hiByte v) s).clock = (memWrite (s.regs.sp - 1) (hiByte v) (s.setSp (s.regs.sp - 1))).clock := rfl
  rw [e, h4]
  have e3 : ∀ (s : State) w, (s.setSp w).clock = s.clock := fun _ _ => rfl
  have e4 : ∀ (s : State) w, (s.setSp w).params = s.params := fun _ _ => rfl
  rw [e3, e4, e2, h2, e3, e4, push8_params]
  rw [Nat.add_mul]; omega

/-- An operand's step of HL costs nothing. -/
theorem place_clock (p : Place) (s : State) : (p.after s).clock = s.clock := by cases p <;> rfl

end Sys2Proof.Machine
end

