-- ==== Sys2Proof/Laws/Passes.lean ====
section
/-! SUPPORT. What a pass of the step loop can do (R405), said once: which of the five kinds of pass it is, what a fetch
reads, what each form does to IME, `ei_pending` and the run state, and that the forms keep the invariant. -/

namespace Sys2Proof.Machine

theorem Word.add_three (v : Word) : v + 2#16 + 1#16 = v + 3#16 := by bv_omega

/-- The bytes of a form, as a fetch meets them: their number is fixed by the first, and they decode to the row. -/
def FetchSpec (f : Form) : Prop :=
  (∃ b0, f.encode[0]? = some b0 ∧ f.fetchedLength = 1 ∧ fetchCount b0 = 1 ∧ decodeBytes b0 0 0 = f.toInstr) ∨
  (∃ b0 b1, f.encode[0]? = some b0 ∧ f.encode[1]? = some b1 ∧ f.fetchedLength = 2 ∧ fetchCount b0 = 2 ∧ decodeBytes b0 b1 0 = f.toInstr) ∨
  (∃ b0 b1 b2, f.encode[0]? = some b0 ∧ f.encode[1]? = some b1 ∧ f.encode[2]? = some b2 ∧ f.fetchedLength = 3 ∧ fetchCount b0 = 3 ∧ decodeBytes b0 b1 b2 = f.toInstr)

/-- The forms with a 16-bit immediate. -/
theorem fetchSpec_word (f : Word → Form) (b0 : Byte) (he : ∀ nn, (f nn).encode = b0 :: immediate16 nn) (h1 : ∀ nn, (f nn).fetchedLength = 3) (h2 : fetchCount b0 = 3)
  (h3 : ∀ a b, formOfBytes b0 a b = f (joinBytes b a)) (nn : Word) : FetchSpec (f nn) := by
  refine .inr (.inr ⟨b0, loByte nn, hiByte nn, by simp [he, immediate16], by simp [he, immediate16], by simp [he, immediate16], h1 _, h2, ?_⟩)
  simp only [decodeBytes, h3, join_hi_lo]

/-- The bytes of every well-formed form. -/
theorem fetchSpec (f : Form) (h : f.wellFormed = true) : FetchSpec f := by
  cases f with
  | ldRR d r => cases d <;> cases r <;> exact .inl ⟨_, rfl, rfl, rfl, rfl⟩
  | ldRN d => cases d <;> exact .inr (.inl ⟨_, _, rfl, rfl, rfl, rfl, rfl⟩)
  | ldRHL d => cases d <;> exact .inl ⟨_, rfl, rfl, rfl, rfl⟩
  | ldHLR d => cases d <;> exact .inl ⟨_, rfl, rfl, rfl, rfl⟩
  | aluR o r => cases o <;> cases r <;> exact .inl ⟨_, rfl, rfl, rfl, rfl⟩
  | aluHL o => cases o <;> exact .inl ⟨_, rfl, rfl, rfl, rfl⟩
  | aluN o n => cases o <;> exact .inr (.inl ⟨_, _, rfl, rfl, rfl, rfl, rfl⟩)
  | incR r => cases r <;> exact .inl ⟨_, rfl, rfl, rfl, rfl⟩
  | decR r => cases r <;> exact .inl ⟨_, rfl, rfl, rfl, rfl⟩
  | shiftR o r => cases o <;> cases r <;> exact .inr (.inl ⟨_, _, rfl, rfl, rfl, rfl, rfl⟩)
  | shiftHL o => cases o <;> exact .inr (.inl ⟨_, _, rfl, rfl, rfl, rfl, rfl⟩)
  | bitR b r => cases b <;> cases r <;> exact .inr (.inl ⟨_, _, rfl, rfl, rfl, rfl, rfl⟩)
  | bitHL b => cases b <;> exact .inr (.inl ⟨_, _, rfl, rfl, rfl, rfl, rfl⟩)
  | resR b r => cases b <;> cases r <;> exact .inr (.inl ⟨_, _, rfl, rfl, rfl, rfl, rfl⟩)
  | resHL b => cases b <;> exact .inr (.inl ⟨_, _, rfl, rfl, rfl, rfl, rfl⟩)
  | setR b r => cases b <;> cases r <;> exact .inr (.inl ⟨_, _, rfl, rfl, rfl, rfl, rfl⟩)
  | setHL b => cases b <;> exact .inr (.inl ⟨_, _, rfl, rfl, rfl, rfl, rfl⟩)
  | rst t => cases t <;> exact .inl ⟨_, rfl, rfl, rfl, rfl⟩
  | retCC c => cases c <;> exact .inl ⟨_, rfl, rfl, rfl, rfl⟩
  | jrCC c => cases c <;> exact .inr (.inl ⟨_, _, rfl, rfl, rfl, rfl, rfl⟩)
  | jpCC c nn => cases c <;> exact fetchSpec_word (.jpCC _) _ (fun _ => rfl) (fun _ => rfl) rfl (fun _ _ => rfl) _
  | callCC c nn => cases c <;> exact fetchSpec_word (.callCC _) _ (fun _ => rfl) (fun _ => rfl) rfl (fun _ _ => rfl) _
  | ldPairNN p nn =>
    cases p <;> first | exact fetchSpec_word (.ldPairNN _) _ (fun _ => rfl) (fun _ => rfl) rfl (fun _ _ => rfl) _ | simp [Form.wellFormed, Pair.inRp] at h
  | jpNN nn => exact fetchSpec_word .jpNN _ (fun _ => rfl) (fun _ => rfl) rfl (fun _ _ => rfl) _
  | callNN nn => exact fetchSpec_word .callNN _ (fun _ => rfl) (fun _ => rfl) rfl (fun _ _ => rfl) _
  | ldANN nn => exact fetchSpec_word .ldANN _ (fun _ => rfl) (fun _ => rfl) rfl (fun _ _ => rfl) _
  | ldNNA nn => exact fetchSpec_word .ldNNA _ (fun _ => rfl) (fun _ => rfl) rfl (fun _ _ => rfl) _
  | ldNNSP nn => exact fetchSpec_word .ldNNSP _ (fun _ => rfl) (fun _ => rfl) rfl (fun _ _ => rfl) _
  | push p => cases p <;> exact .inl ⟨_, rfl, rfl, rfl, rfl⟩
  | pop p => cases p <;> exact .inl ⟨_, rfl, rfl, rfl, rfl⟩
  | addHLPair p => cases p <;> exact .inl ⟨_, rfl, rfl, rfl, rfl⟩
  | incPair p => cases p <;> exact .inl ⟨_, rfl, rfl, rfl, rfl⟩
  | decPair p => cases p <;> exact .inl ⟨_, rfl, rfl, rfl, rfl⟩
  | undefined op =>
    simp only [Form.wellFormed, undefinedOpcodes, List.contains_eq_mem, List.mem_cons, decide_eq_true_eq] at h
    rcases h with rfl | rfl | rfl | rfl | rfl | rfl | rfl | rfl | rfl | rfl | rfl | h
    all_goals first | exact .inl ⟨_, rfl, rfl, rfl, rfl⟩ | simp at h
  | _ => first | exact .inl ⟨_, rfl, rfl, rfl, rfl⟩ | exact .inr (.inl ⟨_, _, rfl, rfl, rfl, rfl, rfl⟩)

/-- Where plain storage at PC holds the bytes of an instruction, the fetch reads it, one M-cycle a byte (R14). -/
theorem fetchInstr_of (i : Instr) (s : State) (hp : ∀ j b, j < i.form.fetchedLength → (encode i)[j]? = some b → s.peek (s.regs.pc + BitVec.ofNat 16 j) = some b) :
   fetchInstr s = (i, (tickN i.form.fetchedLength s).setPc (s.regs.pc + BitVec.ofNat 16 i.form.fetchedLength)) := by
  obtain ⟨h1, h2⟩ := Laws.RoundTrip.all i
  rcases fetchSpec _ h1 with ⟨b0, e0, hl, hc, hd⟩ | ⟨b0, b1, e0, e1, hl, hc, hd⟩ | ⟨b0, b1, b2, e0, e1, e2, hl, hc, hd⟩
  · have p0 := hp 0 b0 (by omega) e0
    simp only [fetchInstr]
    rw [fetch8_of_peek s b0 (by simpa using p0)]
    simp only [hc, hd, h2, hl, tickN]; rfl
  · have p0 := hp 0 b0 (by omega) e0
    have p1 := hp 1 b1 (by omega) e1
    simp only [fetchInstr]
    rw [fetch8_of_peek s b0 (by simpa using p0)]
    simp only [hc]
    rw [fetch8_of_peek ((tick s).setPc (s.regs.pc + 1)) b1 (by simpa [State.setPc, peek_setRegs] using p1)]
    simp only [hd, h2, hl, tickN, State.setPc, tick_setRegs]
    simp [Word.add_one_one]; rfl
  · have p0 := hp 0 b0 (by omega) e0
    have p1 := hp 1 b1 (by omega) e1
    have p2 := hp 2 b2 (by omega) e2
    simp only [fetchInstr]
    rw [fetch8_of_peek s b0 (by simpa using p0)]
    simp only [hc]
    rw [fetch8_of_peek ((tick s).setPc (s.regs.pc + 1)) b1 (by simpa [State.setPc, peek_setRegs] using p1)]
    have := fetch8_of_peek ((tick ((tick s).setPc (s.regs.pc + 1))).setPc (((tick s).setPc (s.regs.pc + 1)).regs.pc+1)) b2 (by simpa [State.setPc, peek_setRegs, Word.add_one_one, tick_setRegs] using p2)
    rw [this]
    simp only [hd, h2, hl, tickN, State.setPc, tick_setRegs]
    simp [Word.add_one_one, Word.add_three]; rfl

/-- A fetch leaves IME, `ei_pending`, the run state and the parameters. -/
theorem fetch_ctl (s : State) : SameControl s (fetchInstr s).2 := by
  simp only [fetchInstr]
  split <;> exact ⟨by simp, by simp, by simp, by simp⟩

theorem place_ctl (p : Place) (s : State) : (p.after s).ime = s.ime ∧ (p.after s).eiPending = s.eiPending ∧ (p.after s).run = s.run ∧ (p.after s).params = s.params := by
  cases p <;> exact ⟨rfl, rfl, rfl, rfl⟩

theorem src_ctl (o : Source8) (s : State) : SameControl s (o.read s).2 := by
  cases o
  · exact ⟨rfl, rfl, rfl, rfl⟩
  · exact ⟨by simp [Source8.read], by simp [Source8.read], by simp [Source8.read], by simp [Source8.read]⟩
  · exact ⟨rfl, rfl, rfl, rfl⟩

def ControlAfter (f : Form) (s t : State) : Prop :=
  match f with
  | .reti => t.ime = true ∧ t.eiPending = false ∧ t.run = s.run
  | .di => t.ime = false ∧ t.eiPending = false ∧ t.run = s.run
  | .ei => t.ime = s.ime ∧ t.eiPending = true ∧ t.run = s.run
  | .halt => t.ime = s.ime ∧ t.eiPending = s.eiPending ∧ t.run = .halted
  | .stop => t.ime = s.ime ∧ t.eiPending = s.eiPending ∧ t.run = .stopped
  | .undefined op => t.ime = s.ime ∧ t.eiPending = s.eiPending ∧ t.run = .faulted op (s.regs.pc - 1) false
  | _ => t.ime = s.ime ∧ t.eiPending = s.eiPending ∧ t.run = s.run

/-- Every form does to control what `ControlAfter` says. -/
theorem ctl_after (f : Form) (s t : State) (h : execForm f s = .next t) : ControlAfter f s t := by
  cases f
  case reti => cases h; exact ⟨rfl, rfl, by simp [returnFromInterrupt, returnPc, State.setPc]⟩
  case undefined => cases h; exact ⟨rfl, rfl, rfl⟩
  case di => cases h; exact ⟨rfl, rfl, rfl⟩
  case ei => cases h; exact ⟨rfl, rfl, rfl⟩
  case halt => cases h; exact ⟨rfl, rfl, rfl⟩
  case stop => cases h; exact ⟨rfl, rfl, rfl⟩
  case jpCC => cases h; simp only [ControlAfter]; split <;> simp [jumpTo, State.setPc]
  case jrCC => cases h; simp only [ControlAfter]; split <;> simp [jumpTo, State.setPc]
  case callCC => cases h; simp only [ControlAfter]; split <;> simp [callTo, State.setPc]
  case retCC => cases h; simp only [ControlAfter]; split <;> simp [returnPc, State.setPc]
  all_goals
    cases h
    simp only [ControlAfter]
    simp [(place_ctl _ _).1, (place_ctl _ _).2.1, (place_ctl _ _).2.2.1, State.setReg8, State.setPc, State.setSp, State.setPair, State.setFlags, State.setA, (src_ctl _ _).ime, (src_ctl _ _).eiPending, (src_ctl _ _).run, jumpTo, callTo, returnPc, memWrite16]

/-- The last line of a pass, by cases. -/
theorem finish_eq (arm : Bool) (u : State) : (∃ o p e, u.run = .faulted o p e) ∧ finishPass arm u = u ∨
    (∀ o p e, u.run ≠ .faulted o p e) ∧ finishPass arm u = if arm && u.eiPending then (u.setIme true).setEiPending false else u := by
  cases h : u.run <;> simp [finishPass, h]

/-- Two instructions of one form are one. -/
theorem form_inj (i j : Instr) (h : i.form = j.form) : i = j := by
  rw [← (Laws.RoundTrip.all i).2, h, (Laws.RoundTrip.all j).2]

theorem step_executes (s : State) (h : s.Executes) : ∃ u, execForm s.nextInstr.form (fetchInstr s.woken).2 = .next u ∧
   step s = .next (finishPass s.eiPending u) := by
  have e : step s = instructionPass s.woken := by
    have hr : runningPass s.woken = instructionPass s.woken := by
      simp only [runningPass]
      rw [if_neg]
      rcases h.noDispatch with hi | hp
      · simp [State.woken, hi]
      · have : s.woken.pending = 0 := hp
        simp [this]
    rcases h.awake with hr2 | ⟨hr2, hp⟩
    · have : s.woken = s := by cases s; simp_all [State.woken, State.setRun]
      simp only [step, pass, hr2]
      rw [this] at hr
      rw [hr, this]
    · simp only [step, pass, hr2, haltedPass]
      rw [if_neg hp]; exact hr
  obtain ⟨u, hu⟩ := execForm_next s.nextInstr.form (fetchInstr s.woken).2
  refine ⟨u, hu, ?_⟩
  rw [e]
  have : exec (fetchInstr s.woken).1 (fetchInstr s.woken).2 = .next u := by rw [exec_eq_execForm]; exact hu
  simp only [instructionPass, this]; rfl

/-- The kinds of pass (R315, R320, R321, R405). -/
theorem step_kinds (s t : State) (h : step s = .next t) :
   (s.Executes) ∨ (s.run = .stopped ∧ t = stopPass s) ∨ (s.run = .halted ∧ s.pending = 0 ∧ t = tick s) ∨
   ((s.run = .running ∨ s.run = .halted) ∧ s.ime = true ∧ s.pending ≠ 0 ∧ t = takeInterrupt (leastSource s.pending) s.woken) := by
  simp only [step, pass] at h
  cases hr : s.run with
  | faulted => simp [hr] at h
  | stopped => simp only [hr] at h; cases h; exact .inr (.inl ⟨rfl, rfl⟩)
  | running =>
    have : s.woken = s := by cases s; simp_all [State.woken, State.setRun]
    by_cases hd : s.ime = true ∧ s.pending ≠ 0
    · simp only [hr, runningPass] at h
      rw [if_pos (by simp only [hd.1, Bool.true_and, bne_iff_ne]; exact hd.2)] at h; cases h
      exact .inr (.inr (.inr ⟨.inl rfl, hd.1, hd.2, by rw [this]⟩))
    · left; refine ⟨.inl hr, ?_⟩
      by_cases h2 : s.ime = true
      · right; by_cases h3 : s.pending = 0
        · exact h3
        · exact absurd ⟨h2, h3⟩ hd
      · left; simpa using h2
  | halted =>
    by_cases hp : s.pending = 0
    · simp only [hr, haltedPass, if_pos hp] at h; cases h; exact .inr (.inr (.inl ⟨rfl, hp, rfl⟩))
    · by_cases hd : s.ime = true
      · simp only [hr, haltedPass, if_neg hp, runningPass] at h
        have hp2 : (s.setRun .running).pending ≠ 0 := hp
        rw [if_pos (by simp only [State.setRun_ime, hd, Bool.true_and, bne_iff_ne]; exact hp2)] at h; cases h
        exact .inr (.inr (.inr ⟨.inr rfl, hd, hp, rfl⟩))
      · left; exact ⟨.inr ⟨hr, hp⟩, .inl (by simpa using hd)⟩

theorem place_inv (p : Place) {s : State} (h : s.Inv) : (p.after s).Inv := by
  cases p <;> first | exact h | exact setRegs_inv _ h

theorem callTo_inv (t : Word) {s : State} (h : s.Inv) : (callTo t s).Inv := setRegs_inv _ (push16_inv _ (tick_inv h))

theorem returnPc_inv {s : State} (h : s.Inv) : (returnPc s).Inv := setRegs_inv _ (tick_inv (pop16_inv h))

theorem source_inv (o : Source8) {s : State} (h : s.Inv) : (o.read s).2.Inv := by
  cases o <;> first | exact h | exact memRead_inv _ h

/-- Every well-formed form keeps the invariant. -/
theorem execForm_inv (f : Form) (hf : f.wellFormed = true) {s t : State} (h : s.Inv) (he : execForm f s = .next t) : t.Inv := by
  cases f
  case ldRR => cases he; exact setRegs_inv _ h
  case ldRN => cases he; exact setRegs_inv _ h
  case ldPairNN => cases he; exact setRegs_inv _ h
  case ldSPHL => cases he; exact tick_inv (setRegs_inv _ h)
  case ldNNSP => cases he; exact memWrite_inv _ _ (memWrite_inv _ _ h)
  case ldhlSPE => cases he; exact tick_inv (setRegs_inv _ (setRegs_inv _ h))
  case push => cases he; exact push16_inv _ (tick_inv h)
  case pop => cases he; exact setRegs_inv _ (pop16_inv h)
  case popAF => cases he; exact setRegs_inv _ (pop16_inv h)
  case addHLPair => cases he; exact tick_inv (setRegs_inv _ (setRegs_inv _ h))
  case incPair => cases he; exact tick_inv (setRegs_inv _ h)
  case decPair => cases he; exact tick_inv (setRegs_inv _ h)
  case addSPE => cases he; exact setRegs_inv _ (tick_inv (tick_inv (setRegs_inv _ h)))
  case stop => cases he; exact setRun_inv _ rfl (setRegs_inv _ h)
  case halt => cases he; exact setRun_inv _ rfl h
  case undefined op =>
    cases he
    exact setRun_inv _ (by simpa [RunState.legal, Form.wellFormed] using hf) h
  case jpNN => cases he; exact setRegs_inv _ (tick_inv h)
  case jrE => cases he; exact setRegs_inv _ (tick_inv h)
  case jpHL => cases he; exact setRegs_inv _ h
  case jpCC => cases he; exact inv_ite (setRegs_inv _ (tick_inv h)) h
  case jrCC => cases he; exact inv_ite (setRegs_inv _ (tick_inv h)) h
  case callNN => cases he; exact callTo_inv _ h
  case rst => cases he; exact callTo_inv _ h
  case callCC => cases he; exact inv_ite (callTo_inv _ h) h
  case ret => cases he; exact returnPc_inv h
  case retCC => cases he; exact inv_ite (returnPc_inv (tick_inv h)) (tick_inv h)
  case reti => cases he; exact setEiPending_inv _ (setIme_inv _ (returnPc_inv h))
  case bitHL => cases he; exact setRegs_inv _ (memRead_inv _ h)
  case aluR => cases he; exact setRegs_inv _ (setRegs_inv _ (source_inv _ h))
  case aluHL => cases he; exact setRegs_inv _ (setRegs_inv _ (source_inv _ h))
  case aluN => cases he; exact setRegs_inv _ (setRegs_inv _ (source_inv _ h))
  case di => cases he; exact setEiPending_inv _ (setIme_inv _ h)
  case ei => cases he; exact setEiPending_inv _ h
  case nop => cases he; exact h
  case incHL => cases he; exact modifyHL_inv _ h
  case decHL => cases he; exact modifyHL_inv _ h
  case shiftHL => cases he; exact modifyHL_inv _ h
  case resHL => cases he; exact modifyHL_inv _ h
  case setHL => cases he; exact modifyHL_inv _ h
  all_goals
    first
    | (cases he; exact place_inv _ (setRegs_inv _ (memRead_inv _ h)))
    | (cases he; exact place_inv _ (memWrite_inv _ _ h))
    | (cases he; exact setRegs_inv _ (setRegs_inv _ h))

theorem finish_inv (arm : Bool) {s : State} (h : s.Inv) : (finishPass arm s).Inv := by
  simp only [finishPass]
  split
  · exact h
  all_goals exact inv_ite (setEiPending_inv _ (setIme_inv _ h)) h

theorem fetchInstr_inv {s : State} (h : s.Inv) : (fetchInstr s).2.Inv := by
  simp only [fetchInstr]
  split
  · exact fetch8_inv h
  · exact fetch8_inv h
  · exact fetch8_inv (fetch8_inv h)
  · exact fetch8_inv (fetch8_inv (fetch8_inv h))

/-- A dispatch keeps the invariant. -/
theorem takeInterrupt_inv (k : Source) {s : State} (h : s.Inv) : (takeInterrupt k s).Inv :=
  setRegs_inv _ (tick_inv (setIrq_inv _ (setEiPending_inv _ (setIme_inv _ (push16_inv _ (tick_inv (tick_inv h)))))))

end Sys2Proof.Machine
end

