-- ==== Sys2Proof/Tests/Slice0.lean ====
section
/-! SUPPORT. Tests. Expected values come from spec/95_test_vectors.md (named V, S or by section) or from the encoding
tables of spec/30_encoding.md; each step test is one step on a small machine. Then, for every obligation with hypotheses,
a witness that meets them. -/

namespace Sys2Proof.Tests

open Sys2Proof Sys2Proof.Machine

set_option maxRecDepth 20000

/-! ### A small machine -/

/-- The state that a result answers; the reset state where it answers none. -/
def after (r : Result) : State :=
  match r with
  | .next t => t
  | .fault _ | .refused _ => State.reset

/-- `code` in work RAM at 0xC000, PC there. -/
def machine (g : Regs) (code : List Byte) : State :=
  { State.reset with regs := { g with pc := 0xC000 }, mem := Memory.writeList [] 0xC000 code }

/-- The same with further bytes of memory. -/
def machineWith (g : Regs) (code : List Byte) (cells : List Host.Cell) : State :=
  let s := machine g code
  s.setMem (cells.foldl (fun m c => m.write c.1 c.2) s.mem)

/-- All registers zero but SP. -/
def regs0 : Regs := { Regs.reset with sp := 0xD002 }

/-- A register file with the flags of a byte. -/
def withF (g : Regs) (v : Byte) : Regs := { g with f := Flags.ofByte v }

/-- A and F after one step. -/
def accumulator (s : State) : Byte × Byte := ((after (step s)).regs.a, (after (step s)).regs.f.toByte)

/-- The clock, PC and SP after one step. -/
def progress (s : State) : Nat × Word × Word :=
  ((after (step s)).clock, (after (step s)).regs.pc, (after (step s)).regs.sp)

/-! ### Ill-formed terms are refused -/

theorem test_wf_ldPairNN_AF : (Form.ldPairNN .AF 0x1234).wellFormed = false := by decide
theorem test_wf_push_SP : (Form.push .SP).wellFormed = false := by decide
theorem test_wf_pop_AF : (Form.pop .AF).wellFormed = false := by decide
theorem test_wf_pop_SP : (Form.pop .SP).wellFormed = false := by decide
theorem test_wf_addHLPair_AF : (Form.addHLPair .AF).wellFormed = false := by decide
theorem test_wf_incPair_AF : (Form.incPair .AF).wellFormed = false := by decide
theorem test_wf_decPair_AF : (Form.decPair .AF).wellFormed = false := by decide
theorem test_wf_undefined_00 : (Form.undefined 0x00).wellFormed = false := by decide

/-! ### Words written out from the encodings (R91, R99 to R101) -/

theorem test_decode_ld_r_r : decode [0b01_000_001] = .ok (.ld_b_c, []) := by rfl
theorem test_decode_ld_r_n : decode [0b00_111_110, 0x7F] = .ok (.ld_a_n 0x7F, []) := by rfl
theorem test_decode_ld_r_hl : decode [0b01_011_110] = .ok (.ld_e__hl, []) := by rfl
theorem test_decode_ld_hl_r : decode [0b01_110_100] = .ok (.ld__hl__h, []) := by rfl
theorem test_decode_ld_nn_a : decode [0xEA, 0x00, 0xD0] = .ok (.ld__nn__a 0xD000, []) := by rfl
theorem test_decode_ldh : decode [0xF0, 0x0F, 0x11] = .ok (.ld_a__n 0x0F, [0x11]) := by rfl
theorem test_decode_ld_pair : decode [0b00_100_001, 0x34, 0x12] = .ok (.ld_hl_nn 0x1234, []) := by rfl
theorem test_decode_push : decode [0b11_110_101] = .ok (.push_af, []) := by rfl
theorem test_decode_pop : decode [0b11_010_001] = .ok (.pop_de, []) := by rfl
theorem test_decode_ldhl : decode [0xF8, 0x80] = .ok (.ldhl_sp_e 0x80, []) := by rfl
theorem test_decode_alu_r : decode [0b10_011_010] = .ok (.sbc_a_d, []) := by rfl
theorem test_decode_alu_hl : decode [0b10_101_110] = .ok (.xor__hl, []) := by rfl
theorem test_decode_alu_n : decode [0b11_111_110, 0x3C] = .ok (.cp_n 0x3C, []) := by rfl
theorem test_decode_inc : decode [0b00_110_100] = .ok (.inc__hl, []) := by rfl
theorem test_decode_add_hl : decode [0b00_111_001] = .ok (.add_hl_sp, []) := by rfl
theorem test_decode_rotate : decode [0x1F] = .ok (.rra, []) := by rfl
theorem test_decode_cb_shift : decode [0xCB, 0b00_110_111] = .ok (.swap_a, []) := by rfl
theorem test_decode_cb_bit : decode [0xCB, 0b01_011_110] = .ok (.bit_3__hl, []) := by rfl
theorem test_decode_cb_res : decode [0xCB, 0b10_111_001] = .ok (.res_7_c, []) := by rfl
theorem test_decode_cb_set : decode [0xCB, 0b11_001_011] = .ok (.set_1_e, []) := by rfl
theorem test_decode_jr : decode [0b00_110_000, 0xFB] = .ok (.jr_nc_e 0xFB, []) := by rfl
theorem test_decode_jp : decode [0b11_011_010, 0x34, 0x12] = .ok (.jp_c_nn 0x1234, []) := by rfl
theorem test_decode_call : decode [0b11_000_100, 0x34, 0x12] = .ok (.call_nz_nn 0x1234, []) := by rfl
theorem test_decode_rst : decode [0b11_101_111] = .ok (.rst_28h, []) := by rfl
theorem test_decode_stop : decode [0x10, 0x5A, 0x76] = .ok (.stop, [0x76]) := by rfl
theorem test_decode_undefined : decode [0xDD] = .ok (.undefined_0xdd, []) := by rfl
theorem test_decode_truncated : decode [0xCD, 0x34] = .error .truncated := by rfl
theorem test_tableWord_cb : decodeTableWord 16 0x37CB = some .swap_a := by decide
theorem test_tableWord_short : decodeTableWord 8 0xCD = some (.call_nn 0x0000) := by decide

/-! ### The load of a word runs it as the first instruction -/

theorem test_withFetchWord : (after (step (State.reset.withFetchWord 16 0x7F3E))).regs.a = 0x7F := by decide

theorem test_withFetchWord_high : (step (State.reset.withFetchWord 8 0x76)) =
    .next (after (step (State.reset.withFetchWord 8 0x76))) ∧
    (after (step (State.reset.withFetchWord 8 0x76))).run = .halted := ⟨rfl, by decide⟩

/-! ### 8-bit loads (95, 3.1) -/

theorem test_ld_h_l : (after (step (machine { regs0 with h := 0x12, l := 0x34 } [0x65]))).regs.h = 0x34 := by
  decide
theorem test_ld_hl_n : (after (step (machine { regs0 with h := 0xDF, l := 0xFF } [0x36, 0x77]))).mem.read 0xDFFF = 0x77 := by
  decide
theorem test_ld_hl_b_IF : (after (step (machine { regs0 with h := 0xFF, l := 0x0F, b := 0xFF } [0x70]))).irq.flag = 0b11111 := by
  decide
theorem test_ldh_read_IF : accumulator (machine regs0 [0xF0, 0x0F]) = (0xE0, 0x00) := by decide
theorem test_ldh_write_hram : (after (step (machine { regs0 with a := 0x42 } [0xE0, 0x80]))).mem.read 0xFF80 = 0x42 := by
  decide
theorem test_ld_nn_a : progress (machine { regs0 with a := 0x9D } [0xEA, 0x00, 0xD0]) = (16, 0xC003, 0xD002) := by
  decide
theorem test_ld_hli_a : (after (step (machine { regs0 with h := 0xDF, l := 0xFF, a := 0x66 } [0x22]))).hl = 0xE000 := by
  decide
theorem test_ld_a_hld : (after (step (machineWith regs0 [0x3A] [(0x0000, 0x31)]))).hl = 0xFFFF := by decide
theorem test_ld_bc : accumulator (machineWith { regs0 with b := 0xD1, c := 0x23 } [0x0A] [(0xD123, 0x0B)]) = (0x0B, 0x00) := by
  decide

/-! ### 16-bit loads and the stack (95, 3.2) -/

theorem test_ld_nn_sp : let t := after (step (machine { regs0 with sp := 0xABCD } [0x08, 0xFF, 0xD0]))
    (t.mem.read 0xD0FF, t.mem.read 0xD100, t.clock) = (0xCD, 0xAB, 20) := by decide
theorem test_ldhl_carry : let t := after (step (machine { regs0 with sp := 0x00FF } [0xF8, 0x01]))
    (t.hl, t.regs.f.toByte) = (0x0100, 0x30) := by decide
theorem test_ldhl_negative : let t := after (step (machine { regs0 with sp := 0x0000 } [0xF8, 0xFF]))
    (t.hl, t.regs.f.toByte) = (0xFFFF, 0x00) := by decide
theorem test_push_af : let t := after (step (machine (withF { regs0 with a := 0xAB } 0x50) [0xF5]))
    (t.mem.read 0xD001, t.mem.read 0xD000, t.regs.sp, t.clock) = (0xAB, 0x50, 0xD000, 16) := by decide
theorem test_push_into_IE : let t := after (step (machine (withF { regs0 with a := 0x12, sp := 0x0001 } 0xF0) [0xF5]))
    (t.irq.enable, t.regs.sp) = (0xF0, 0xFFFF) := by decide
theorem test_pop_af : accumulator (machineWith { regs0 with sp := 0xD000 } [0xF1] [(0xD000, 0x0F), (0xD001, 0x99)]) = (0x99, 0x00) := by
  decide

/-! ### Arithmetic (95, 3.3 and 3.4) -/

theorem test_add_wraps : accumulator (machine { regs0 with a := 0x80 } [0x87]) = (0x00, 0x90) := by decide
theorem test_adc : accumulator (machine (withF { regs0 with a := 0xFF } 0x10) [0x88]) = (0x00, 0xB0) := by decide
theorem test_adc_hl : accumulator (machineWith (withF { regs0 with a := 0x7F, h := 0xD0 } 0x10) [0x8E] [(0xD000, 0x80)]) = (0x00, 0xB0) := by
  decide
theorem test_sub : accumulator (machine { regs0 with a := 0x10, b := 0x01 } [0x90]) = (0x0F, 0x60) := by decide
theorem test_sbc : accumulator (machine (withF { regs0 with b := 0xFF } 0x10) [0x98]) = (0x00, 0xF0) := by decide
theorem test_and : accumulator (machine (withF { regs0 with a := 0xF0, b := 0x0F } 0x10) [0xA0]) = (0x00, 0xA0) := by decide
theorem test_xor : accumulator (machine { regs0 with a := 0x0F } [0xEE, 0xFF]) = (0xF0, 0x00) := by decide
theorem test_or : accumulator (machine { regs0 with a := 0x01 } [0xF6, 0x80]) = (0x81, 0x00) := by decide
theorem test_cp : accumulator (machine { regs0 with a := 0x8F } [0xFE, 0x90]) = (0x8F, 0x50) := by decide
theorem test_inc_keeps_c : accumulator (machine (withF { regs0 with a := 0xFF } 0x10) [0x3C]) = (0x00, 0xB0) := by decide
theorem test_dec_c : let t := after (step (machine (withF { regs0 with c := 0x10 } 0x80) [0x0D]))
    (t.regs.c, t.regs.f.toByte) = (0x0F, 0x60) := by decide
theorem test_inc_hl : let t := after (step (machineWith (withF { regs0 with h := 0xD0 } 0xF0) [0x34] [(0xD000, 0x7F)]))
    (t.mem.read 0xD000, t.regs.f.toByte, t.clock) = (0x80, 0x30, 12) := by decide
theorem test_add_hl : let t := after (step (machine (withF { regs0 with h := 0x0F, l := 0xFF, c := 0x01 } 0x00) [0x09]))
    (t.hl, t.regs.f.toByte, t.clock) = (0x1000, 0x20, 8) := by decide
theorem test_add_sp : let t := after (step (machine { regs0 with sp := 0xFF81 } [0xE8, 0x7F]))
    (t.regs.sp, t.regs.f.toByte, t.clock) = (0x0000, 0x30, 16) := by decide
theorem test_dec_de : (after (step (machine regs0 [0x1B]))).pair .DE = 0xFFFF := by decide

/-! ### Rotates, shifts, bits (95, 3.5) -/

theorem test_rlca : accumulator (machine (withF { regs0 with a := 0x80 } 0xE0) [0x07]) = (0x01, 0x10) := by decide
theorem test_rra : accumulator (machine (withF { regs0 with a := 0x01 } 0x10) [0x1F]) = (0x80, 0x10) := by decide
theorem test_rl_d : let t := after (step (machine (withF { regs0 with d := 0x7F } 0x10) [0xCB, 0x12]))
    (t.regs.d, t.regs.f.toByte) = (0xFF, 0x00) := by decide
theorem test_rr_hl : let t := after (step (machineWith (withF { regs0 with h := 0xD0 } 0x10) [0xCB, 0x1E] [(0xD000, 0x02)]))
    (t.mem.read 0xD000, t.regs.f.toByte, t.clock) = (0x81, 0x00, 16) := by decide
theorem test_sra : accumulator (machine { regs0 with a := 0x81 } [0xCB, 0x2F]) = (0xC0, 0x10) := by decide
theorem test_swap : accumulator (machine (withF { regs0 with a := 0xA5 } 0xF0) [0xCB, 0x37]) = (0x5A, 0x00) := by decide
theorem test_srl : accumulator (machine { regs0 with a := 0x01 } [0xCB, 0x3F]) = (0x00, 0x90) := by decide
theorem test_bit : accumulator (machine (withF { regs0 with a := 0x80 } 0x10) [0xCB, 0x7F]) = (0x80, 0x30) := by decide
theorem test_res_hl : (after (step (machineWith { regs0 with h := 0xD0 } [0xCB, 0xBE] [(0xD000, 0xFF)]))).mem.read 0xD000 = 0x7F := by
  decide
theorem test_set : accumulator (machine (withF regs0 0xF0) [0xCB, 0xFF]) = (0x80, 0xF0) := by decide

/-! ### Control transfer and CPU control (95, 3.6 and 3.7) -/

theorem test_jp_taken : progress (machine (withF regs0 0x80) [0xCA, 0x00, 0x80]) = (16, 0x8000, 0xD002) := by decide
theorem test_jp_not_taken : progress (machine (withF regs0 0x10) [0xD2, 0x34, 0x12]) = (12, 0xC003, 0xD002) := by decide
theorem test_jr_backward : progress (machine regs0 [0x18, 0x80]) = (12, 0xBF82, 0xD002) := by decide
theorem test_call : let t := after (step (machine regs0 [0xCD, 0x34, 0x12]))
    (t.mem.read 0xD001, t.mem.read 0xD000, t.regs.pc, t.clock) = (0xC0, 0x03, 0x1234, 24) := by decide
theorem test_ret_cc : progress (machineWith (withF { regs0 with sp := 0xD000 } 0x80) [0xC8] [(0xD000, 0x78), (0xD001, 0x56)]) = (20, 0x5678, 0xD002) := by
  decide
theorem test_ret_cc_not_taken : progress (machine regs0 [0xC8]) = (8, 0xC001, 0xD002) := by decide
theorem test_reti : (after (step (machine { regs0 with sp := 0xD000 } [0xD9]))).ime = true := by decide
theorem test_rst : progress (machine regs0 [0xEF]) = (16, 0x0028, 0xD000) := by decide
theorem test_daa_add : accumulator (machine (withF { regs0 with a := 0x9A } 0x00) [0x27]) = (0x00, 0x90) := by decide
theorem test_daa_sub : accumulator (machine (withF { regs0 with a := 0xFF } 0x70) [0x27]) = (0x99, 0x50) := by decide
theorem test_cpl : accumulator (machine (withF { regs0 with a := 0x35 } 0x90) [0x2F]) = (0xCA, 0xF0) := by decide
theorem test_ccf : accumulator (machine (withF regs0 0xF0) [0x3F]) = (0x00, 0x80) := by decide
theorem test_stop : let t := after (step (machine regs0 [0x10, 0x00]))
    (t.run, t.regs.pc, t.clock) = (.stopped, 0xC002, 4) := by decide
theorem test_undefined : let t := after (step (machine regs0 [0xDD]))
    (t.run, t.regs.pc, t.clock) = (.faulted 0xDD 0xC000 false, 0xC001, 4) := by decide

/-! ### Interrupts, time and devices (95, 4 and 5) -/

/-- V1: both the VBlank and the timer request pending, PC 0xC123. -/
def dispatching : State :=
  { State.reset with regs := { regs0 with pc := 0xC123, sp := 0xD000 }, ime := true, irq := { flag := 0b00101, enable := 0x05 } }

theorem test_dispatch : let t := after (step dispatching)
    (t.regs.pc, t.regs.sp, t.mem.read 0xCFFF, t.mem.read 0xCFFE, t.irq.flag, t.ime, t.clock) =
      (0x0040, 0xCFFE, 0xC1, 0x23, 0b00100, false, 20) := by decide

/-- V11: DIV written at `div16` = 0x0008 with bit 3 selected. -/
theorem test_div_glitch :
    (tick (busWrite 0xFF04 0x99 (tickN 2 (busWrite 0xFF07 0x05 State.reset)))).timer.tima = 0x01 := by decide

/-- V14: overflow and reload. -/
theorem test_timer_reload : let t := tickN 4 (busWrite 0xFF07 0x05 (busWrite 0xFF05 0xFF (busWrite 0xFF06 0xF0 State.reset)))
    (t.timer.tima, t.irq.flag) = (0xF0, 0b00100) := by decide

/-- V17: SB reads 0xFF during a transfer on the external clock. -/
theorem test_serial_external : let t := busWrite 0xFF02 0x80 (busWrite 0xFF01 0x3C State.reset)
    ((busRead 0xFF01 t).1, (busRead 0xFF02 t).1) = (0xFF, 0xFE) := by decide

/-- V19: the compare of LYC and the write mask of STAT. -/
theorem test_stat_lyc : let t := busWrite 0xFF45 0x00 (busWrite 0xFF41 0xFF (busWrite 0xFF45 0x01 State.reset))
    ((busRead 0xFF41 t).1, t.irq.flag) = (0xFE, 0b00010) := by decide

/-- V23: P1 with Right and A pressed, directions selected. -/
theorem test_p1 : let s := State.reset.setInput { State.reset.input with polls := [{ Buttons.released with right := true, a := true }] }
    let r := busRead 0xFF00 (busWrite 0xFF00 0x20 s)
    (r.1, r.2.irq.flag) = (0xEE, 0b10000) := by decide

/-- V21: one pixel of the renderer: tile 2 gives colour 3 at x = 8. -/
theorem test_render : renderPixel { State.reset with
    mem := [(0x8020, 0xFF), (0x8021, 0xFF), (0x9800, 0x01), (0x9801, 0x02)],
    video := { Video.reset with lcdc := 0x91, bgp := 0xE4 } } 0 8 = 3 := by decide

/-- V26: the mirror. -/
theorem test_mirror : (busWrite 0xE123 0x77 State.reset).mem = [(0xC123, 0x77)] := by decide

/-- The map of R62 is what its ranges bind, one after another (R56), over the unmapped table. -/
theorem test_map_from_binds :
    [(0x0000, 0x7FFF, Handler.cartridge), (0x8000, 0x9FFF, .videoRam), (0xA000, 0xBFFF, .cartridge),
      (0xC000, 0xFDFF, .workRam), (0xFE00, 0xFE9F, .oam), (0xFEA0, 0xFEFF, .unusable), (0xFF00, 0xFF00, .input),
      (0xFF01, 0xFF02, .serial), (0xFF04, 0xFF07, .timer), (0xFF0F, 0xFF0F, .interruptController),
      (0xFF10, 0xFF3F, .sound), (0xFF40, 0xFF4B, .videoRegisters), (0xFF50, 0xFF50, lockout),
      (0xFF80, 0xFFFE, .highRam), (0xFFFF, 0xFFFF, .interruptController)].foldl
        (fun (t : SlotTable) r => SlotTable.bind t r.1 r.2.1 r.2.2) [(0xFFFF, .unmapped)] = slotsWithCartridge := by decide

/-- With a boot ROM its range is bound last (R62). -/
theorem test_map_boot : SlotTable.bind slotsWithCartridge 0x0000 0x00FF .bootRom = slotsWithBootRom := by decide

/-! ### Witnesses: states and operands that meet the hypotheses of the obligations -/

/-- A running machine with an instruction in work RAM, on the map with the cartridge. -/
def idle (code : List Byte) : State := machine regs0 code

/-- A launch with everything blank. -/
def blankLaunch : Launch :=
  { cart := .romOnly, answers := [], mem := [], regs := regs0, frameBuffer := [], polls := [], line := [],
    dmaStallMCycles := 160 }

/-- A launch with another cartridge than the default, and the answers of an agent. -/
def withCart (cart : CartKind) (answers : List Byte) : State :=
  launchCartridge { blankLaunch with cart := cart, answers := answers }

/-- Cartridge RAM keeps what is written, and its ROM does not (R66). -/
theorem test_cartridge_ram :
    (busRead 0xBFFF (busWrite 0xBFFF 0x5A (withCart .romRam []))).1 = 0x5A ∧
    busWrite 0x7FFF 0x5A (withCart .romRam []) = withCart .romRam [] := by decide

/-- An agent is handed reads and writes with the bus address, and answers the reads (R66). -/
theorem test_cartridge_agent :
    (busRead 0xA123 (busWrite 0x2000 0x01 (withCart .agent [0x77, 0x78]))).1 = 0x77 ∧
    (busRead 0xA123 (busWrite 0x2000 0x01 (withCart .agent [0x77, 0x78]))).2.cartridge =
      { answers := [0x78], accesses := [.read 0xA123 0x77, .write 0x2000 0x01] } := by decide

/-- A loaded word comes to the fetch as the agent's next answers: `LD BC,0x1234`. -/
theorem test_withFetchWord_agent :
    (after (step ((withCart .agent [0x76]).withFetchWord 24 0x123401))).regs.c = 0x34 ∧
    (after (step ((withCart .agent [0x76]).withFetchWord 24 0x123401))).cartridge.answers = [0x76] := by decide

/-- The machine with the boot ROM mapped. -/
def booting : State := launchBootRom [0x31] blankLaunch

/-- A press of Start is the next poll result. -/
def pressing (s : State) : State :=
  s.setInput { s.input with polls := [{ Buttons.released with start := true }] }

theorem executes_of_running (s : State) (h : s.run = .running) (h2 : s.ime = false ∨ s.pending = 0) : s.Executes :=
  ⟨.inl h, h2⟩

theorem witness_EncodeOfDecode : (decode [0x3E, 0x7F, 0x00] = .ok (.ld_a_n 0x7F, [0x00]) ∧ Instr.ld_a_n 0x7F ≠ .stop) ∧
    decode [0x10, 0xFF] = .ok (.stop, []) := ⟨⟨by rfl, by decide⟩, by rfl⟩

/-- Running without a dispatch due, for want of IME and for want of a request; the bytes of `LD BC,nn` at PC. -/
theorem witness_StepRunsTheDecodedInstruction :
    (let s := (idle [0x01, 0xEF, 0xBE]).setIrq { flag := 1, enable := 1 }
     s.run = .running ∧ s.ime = false ∧ s.pending ≠ 0) ∧
    (let s := (idle [0x01, 0xEF, 0xBE]).setIme true
     s.run = .running ∧ s.pending = 0 ∧ ∀ j b, j < (Instr.ld_bc_nn 0xBEEF).form.fetchedLength →
       (encode (.ld_bc_nn 0xBEEF))[j]? = some b → s.peek (s.regs.pc + BitVec.ofNat 16 j) = some b) := by
  refine ⟨by decide, by decide, by decide, ?_⟩
  intro j b hj hb
  have h3 : j < 3 := hj
  rcases j with _ | _ | _ | j
  · have : some (0x01 : Byte) = some b := hb
    rw [← this]; decide
  · have : some (0xEF : Byte) = some b := hb
    rw [← this]; decide
  · have : some (0xBE : Byte) = some b := hb
    rw [← this]; decide
  · omega

theorem witness_StepKeepsInvariant : State.reset.Inv ∧ ∃ t, step State.reset = .next t := by
  refine ⟨?_, _, rfl⟩
  rw [State.inv_iff]
  exact ⟨⟨rfl, by simp [State.reset]⟩, ⟨rfl, by simp [State.reset]⟩, .inl rfl, ⟨by decide, by decide⟩,
    ⟨by decide, by decide, by decide⟩, rfl, rfl⟩

/-- The last cell of each memory, cartridge RAM among them, the last value of the frame counter. -/
theorem witness_LaunchHasInvariant : ∃ l : Launch, l.mem ≠ [] ∧ l.mem.wf = true ∧ (∀ c ∈ l.mem, storageAddress l.cart c.1 = true) ∧
    l.frameBuffer ≠ [] ∧ l.frameBuffer.wf = true ∧ (∀ c ∈ l.frameBuffer, framePixel c = true) ∧ 70223 < frameCycles :=
  ⟨{ blankLaunch with cart := .romRam, mem := [(0x0000, 0x31), (0xBFFF, 0x02), (0xFFFE, 0x01)], frameBuffer := [(23039, 3)] }, by decide⟩

theorem witness_ResetValues : launchCartridge blankLaunch = launchCartridge blankLaunch ∧
    launchBootRom [0x31] blankLaunch ≠ launchCartridge blankLaunch := ⟨rfl, by decide⟩

theorem witness_UndefinedOpcodeFaults : (0xFD : Byte) ∈ undefinedOpcodes ∧
    (State.reset.setRun (.faulted 0xD3 0x0100 false)).run = .faulted 0xD3 0x0100 false ∧
    State.reset.isFaulted = false := by decide

theorem witness_ClockMovesForward :
    (State.reset.setRun .stopped).run = .stopped ∧ (∃ t, step (State.reset.setRun .stopped) = .next t) ∧
    State.reset.run ≠ .stopped ∧ ∃ t, step State.reset = .next t := ⟨rfl, ⟨_, rfl⟩, by decide, _, rfl⟩

/-- IME changed by RETI, by the delayed enable, by DI, and by a dispatch. -/
theorem witness_OnlyTheseChangeIme :
    (∃ t, step (machine { regs0 with sp := 0xD000 } [0xD9]) = .next t ∧ t.ime ≠ false) ∧
    (∃ t, step ((idle [0x00]).setEiPending true) = .next t ∧ t.ime ≠ false) ∧
    (∃ t, step ((idle [0xF3]).setIme true) = .next t ∧ t.ime ≠ true) ∧
    (∃ t, step dispatching = .next t ∧ t.ime ≠ true) :=
  ⟨⟨_, rfl, by decide⟩, ⟨_, rfl, by decide +kernel⟩, ⟨_, rfl, by decide +kernel⟩, ⟨_, rfl, by decide +kernel⟩⟩

theorem witness_OnlyTheseChangeTheRunState :
    (∃ t, step ((pressing State.reset).setRun .stopped) = .next t ∧ t.run = .running) ∧
    (∃ t, step (State.reset.setRun .stopped) = .next t ∧ t.run = .stopped) ∧
    ((State.reset.setRun .halted).pending = 0 ∧ ∃ t, step (State.reset.setRun .halted) = .next t) ∧
    (∃ t, step (idle [0x76]) = .next t ∧ t.run = .halted) ∧
    (∃ t, step (idle [0xDD]) = .next t ∧ t.run = .faulted 0xDD 0xC000 false) :=
  ⟨⟨_, rfl, by decide⟩, ⟨_, rfl, by decide +kernel⟩, ⟨by decide, _, rfl⟩, ⟨_, rfl, by decide +kernel⟩,
    ⟨_, rfl, by decide⟩⟩

theorem witness_EiTakesEffectAfterOneInstruction :
    ((idle [0xFB]).Executes ∧ (idle [0xFB]).eiPending = false ∧ (idle [0xFB]).nextInstr = .ei) ∧
    (let s := (idle [0xFB]).setEiPending true
     s.Executes ∧ s.eiPending = true ∧ s.nextInstr ≠ .di ∧ isUndefined s.nextInstr = false) ∧
    (let s := (idle [0xF3]).setEiPending true
     s.Executes ∧ s.nextInstr = .di) :=
  ⟨⟨executes_of_running _ rfl (.inl rfl), by decide⟩, ⟨executes_of_running _ rfl (.inl rfl), by decide +kernel⟩,
    ⟨executes_of_running _ rfl (.inl rfl), by decide⟩⟩

/-- Running and halted, with the stack in RAM. -/
theorem witness_InterruptDispatch :
    (dispatching.ime = true ∧ dispatching.pending ≠ 0 ∧ dispatching.run = .running ∧
      dispatching.cellOf (dispatching.regs.sp - 1) = some 0xCFFF ∧ dispatching.cellOf (dispatching.regs.sp - 2) = some 0xCFFE ∧
      2 ≠ (leastSource dispatching.pending).bit ∧ dispatching.regs.sp - 1 ≠ 0xFF0F ∧ dispatching.regs.sp - 2 ≠ 0xFF0F ∧
      dispatching.irq.flag.getLsbD 2 = true) ∧
    (let s := dispatching.setRun .halted
     s.ime = true ∧ s.pending ≠ 0 ∧ s.run = .halted) := by decide

theorem witness_LowestPendingSourceWins : (0b10000#5) ≠ 0 ∧ 3 < (leastSource 0b10000).bit := by decide

theorem witness_HaltIdlesOrWakes :
    ((State.reset.setRun .halted).run = .halted ∧ (State.reset.setRun .halted).pending = 0) ∧
    (dispatching.setRun .halted).run = .halted ∧ (dispatching.setRun .halted).pending ≠ 0 := by decide

theorem witness_StopPassOnlyPolls : ((pressing State.reset).setRun .stopped).run = .stopped ∧
    ((pressing State.reset).setRun .stopped).pressSeen = true := by decide

theorem witness_RequestsStayPending : dispatching.irq.flag.getLsbD 0 = true ∧ dispatching.irq.flag.getLsbD 2 = true ∧
    2 ≠ Source.vblank.bit ∧ dispatching.regs.sp - 1 ≠ 0xFF0F ∧ dispatching.regs.sp - 2 ≠ 0xFF0F ∧ (0xFF10 : Word) ≠ 0xFF0F := by
  decide

/-- The three clauses: a falling edge at TIMA = 0xFF, one below it, and no edge. -/
theorem witness_TimerStep :
    (let s := State.reset.setTimer { div := 0x03FF, tima := 0xFF, tma := 0x42, tac := 0b100, prevEdge := true }
     s.timer.prevEdge = true ∧ (timerStep s).timer.prevEdge = false ∧ s.timer.tima = 0xFF) ∧
    (let s := State.reset.setTimer { div := 0x03FF, tima := 0xFE, tma := 0x42, tac := 0b100, prevEdge := true }
     s.timer.prevEdge = true ∧ (timerStep s).timer.prevEdge = false ∧ s.timer.tima ≠ 0xFF) ∧
    (State.reset.timer.prevEdge = false ∨ (timerStep State.reset).timer.prevEdge = true) := by decide

theorem witness_TimerPeriod :
    (let t : Timer := { div := 0xFFFF, tima := 0xFF, tma := 0x12, tac := 0b111, prevEdge := true }
     t.tac = 0b111 ∧ t.prevEdge = t.div.getLsbD 7 ∧ t.tima = 0xFF) ∧
    (let t : Timer := { div := 0x0000, tima := 0x00, tma := 0x12, tac := 0b111, prevEdge := false }
     t.tac = 0b111 ∧ t.prevEdge = t.div.getLsbD 7 ∧ t.tima ≠ 0xFF) := by decide

/-- Both maps; both values of bit 7 of a byte written to SC. -/
theorem witness_DeviceRegisters : State.reset.mapped ∧ booting.mapped ∧
    (0x80 : Byte).getLsbD 7 = true ∧ (0x7F : Byte).getLsbD 7 = false := ⟨.inl rfl, .inr rfl, by decide⟩

/-- The controller at the last T-state of its period, and one T-state before the eighth bit. -/
theorem witness_SerialTransferCompletes :
    (let c : Serial := { Serial.reset with running := true, internal := true, acc := 511 }
     c.running = true ∧ c.internal = true ∧ c.bitCount = 0 ∧ c.outByte = 0x00 ∧ c.acc < 512) ∧
    (let s := State.reset.setSerial { Serial.reset with running := true, internal := true, acc := 511, bitCount := 7 }
     s.serial.running = true ∧ (serialStep s).serial.running = false) := by decide

theorem witness_ExternalClockNeverShifts : ({ Serial.reset with running := true } : Serial).internal = false := by decide

/-- Every clause at the ends of its range. -/
theorem witness_ScanlineAndMode :
    let v := fun n => ({ Video.reset with lcdc := 0x80, frameCycle := n } : Video)
    ((v 0).frameCycle % 456 < 80 ∧ (v 79).frameCycle % 456 < 80 ∧ (v 80).frameCycle % 456 ≥ 80 ∧
      (v 251).frameCycle % 456 < 252 ∧ (v 252).frameCycle % 456 ≥ 252 ∧ (v 65663).frameCycle < 65664 ∧
      (v 65663).frameCycle % 456 ≥ 252 ∧ (v 65664).frameCycle ≥ 65664 ∧ (v 70223).frameCycle < 70224) := by decide

theorem witness_VideoStepAndVBlank :
    let s := State.reset.setVideo { Video.reset with lcdc := 0x80 }
    s.video.displayOn = true ∧ s.video.frameCycle = 0 ∧ s.irq.flag.getLsbD 0 = false := by decide

theorem witness_DisplayDisableAndEnable :
    (let s := State.reset.setVideo { Video.reset with lcdc := 0x91, frameCycle := 70223 }
     s.video.displayOn = true ∧ (0x11 : Byte).getLsbD 7 = false ∧ s.video.displayOn = (0x80 : Byte).getLsbD 7) ∧
    State.reset.video.displayOn = false ∧ (0x80 : Byte).getLsbD 7 = true ∧
    State.reset.video.displayOn = (0x7F : Byte).getLsbD 7 := by decide

theorem witness_RenderLine :
    let s := State.reset.setVideo { Video.reset with lcdc := 0x91, frameCycle := 65663 }
    s.video.frameCycle < 65664 ∧ 159 < 160 := by decide

theorem witness_VideoRegistersReadBack : State.reset.mapped ∧ booting.mapped := ⟨.inl rfl, .inr rfl⟩

/-- Both maps; a page at each end of each range. -/
theorem witness_OamDmaCopiesAPage : booting.mapped ∧ State.reset.slots = slotsWithCartridge ∧
    (0x7F : Byte).toNat < 0x80 ∧ State.reset.params.cart ≠ .agent ∧ (withCart .romRam []).params.cart = .romRam ∧
    (withCart .romRam []).mapped ∧ 0xA0 ≤ (0xA0 : Byte).toNat ∧ (0xBF : Byte).toNat < 0xC0 ∧ 0x80 ≤ (0x80 : Byte).toNat ∧ (0x9F : Byte).toNat < 0xA0 ∧ 0xC0 ≤ (0xC0 : Byte).toNat ∧
    (0xDF : Byte).toNat < 0xE0 ∧ 0xE0 ≤ (0xE0 : Byte).toNat ∧ (0xFD : Byte).toNat < 0xFE :=
  ⟨.inr rfl, rfl, by decide, by decide, rfl, .inl rfl, by decide⟩

theorem witness_InputRegister : (pressing booting).mapped ∧ (pressing State.reset).mapped := ⟨.inr rfl, .inl rfl⟩

theorem witness_RebindCopiesTheOwner :
    (slotsWithBootRom.Pairwise (fun c d => c.1 < d.1) ∧ (∃ c ∈ slotsWithBootRom, (0x00FF : Word).toNat ≤ c.1) ∧
      (0x0000 : Word) ≤ 0x00FF) ∧
    booting.handler 0x7FFF = .cartridge ∧ (0x7FFF : Word).toNat < 0x8000 ∧ booting.params.cart ≠ .agent :=
  ⟨⟨by decide, ⟨(0x00FF, .bootRom), by decide, by decide⟩, by decide⟩, by decide⟩

theorem witness_BootRomLockout : booting.slots = slotsWithBootRom ∧ (0x00FF : Word).toNat < 0x100 ∧
    booting.params.cart ≠ .agent ∧ State.reset.slots = slotsWithCartridge := ⟨rfl, by decide, by decide, rfl⟩

theorem witness_LockoutIsForEver : State.reset.slots = slotsWithCartridge ∧ ∃ t, step State.reset = .next t := ⟨rfl, _, rfl⟩

theorem witness_TriggeredMapping : State.reset.handler 0xFF50 = .triggered .write 0x0000 0x00FF 0x0100 := by decide

/-- The lowest and the highest byte of each RAM, a mirror address, and two different cells. -/
theorem witness_RamReadsBack :
    (State.reset.cellOf 0x8000 = some 0x8000 ∧ State.reset.cellOf 0xC000 = some 0xC000 ∧
      State.reset.cellOf 0xE000 = some 0xC000 ∧ State.reset.cellOf 0xFE9F = some 0xFE9F ∧
      State.reset.cellOf 0xFFFE = some 0xFFFE ∧ (0xFFFE : Nat) ≠ 0xC000) ∧
    (booting.mapped ∧ 0xC000 ≤ (0xC000 : Word).toNat ∧ (0xDDFF : Word).toNat < 0xDE00) ∧
    (withCart .romRam []).mapped ∧ (withCart .romRam []).params.cart = .romRam ∧ 0xA000 ≤ (0xA000 : Word).toNat ∧
    (0xBFFF : Word).toNat < 0xC000 :=
  ⟨by decide, ⟨.inr rfl, by decide⟩, .inl rfl, rfl, by decide⟩

theorem witness_CartridgeAndAbsentStorage : booting.mapped ∧
    (booting.handler 0xFF03 = .unmapped ∧ booting.handler 0xFEA0 = .unusable ∧ booting.handler 0xFEFF = .unusable ∧
      booting.handler 0xA000 = .cartridge ∧ booting.handler 0x00FF = .bootRom ∧ booting.handler 0x0100 = .cartridge ∧
      booting.handler 0xFF10 = .sound ∧ booting.handler 0xFF3F = .sound ∧ booting.params.cart = .romOnly) ∧
    (withCart .agent [0x77]).mapped ∧ (withCart .agent [0x77]).handler 0x7FFF = .cartridge ∧
    (withCart .agent [0x77]).handler 0xBFFF = .cartridge ∧ (withCart .agent [0x77]).params.cart = .agent ∧
    (withCart .agent [0x77]).cartridge.answers = 0x77 :: [] ∧ (withCart .agent []).cartridge.answers = [] :=
  ⟨.inr rfl, by decide, .inl rfl, by decide⟩

/-- An operand address on plain storage, for the loads, the accumulator operations, `INC (HL)` and the shifts. -/
theorem witness_peek : (idle [0x5A]).peek 0xC000 = some 0x5A ∧ (idle [0x5A]).peek 0xE000 = some 0x5A := by decide

/-- An operand address in RAM, for the stores and the read-modify-writes. -/
theorem witness_cell : (machine { regs0 with h := 0xDF, l := 0xFF } []).cellOf (joinBytes 0xDF 0xFF) = some 0xDFFF := by
  decide

theorem witness_StoreStackPointer : State.reset.cellOf 0xD0FF = some 0xD0FF ∧ State.reset.cellOf (0xD0FF + 1) = some 0xD100 := by
  decide

/-- A pair of `rp2`, and the stack in RAM: for the pushes, the calls and the pop of what was pushed. -/
theorem witness_Push : Pair.AF.inRp2 = true ∧ Pair.BC.inRp2 = true ∧
    (idle []).cellOf ((idle []).regs.sp - 1) = some 0xD001 ∧ (idle []).cellOf ((idle []).regs.sp - 2) = some 0xD000 := by
  decide

theorem witness_PairArithmetic : Pair.SP.inRp = true ∧ Pair.HL.inRp = true := by decide

theorem witness_RotatesAndShifts : (ShiftOp.rr, Form.rra) ∈ [(ShiftOp.rlc, Form.rlca), (.rl, .rla), (.rrc, .rrca), (.rr, .rra)] := by
  decide

theorem witness_BitResetAndSet :
    (Form.resR .c7 = Form.resR .c7 ∧ Form.resHL .c7 = Form.resHL .c7 ∧ false = false) ∧
    (Form.setR .c0 = Form.setR .c0 ∧ Form.setHL .c0 = Form.setHL .c0 ∧ true = true) := ⟨⟨rfl, rfl, rfl⟩, ⟨rfl, rfl, rfl⟩⟩

/-- Each condition holding and failing: for the jumps, the calls and the returns. -/
theorem witness_conditions :
    condHolds .NZ (Flags.ofByte 0x00) = true ∧ condHolds .Z (Flags.ofByte 0x80) = true ∧
    condHolds .NC (Flags.ofByte 0x00) = true ∧ condHolds .C (Flags.ofByte 0x10) = true ∧
    condHolds .NZ (Flags.ofByte 0x80) = false ∧ condHolds .Z (Flags.ofByte 0x00) = false ∧
    condHolds .NC (Flags.ofByte 0x10) = false ∧ condHolds .C (Flags.ofByte 0x00) = false := by decide

theorem witness_Returns : let s := machineWith { regs0 with sp := 0xD000 } [] [(0xD000, 0x78), (0xD001, 0x56)]
    s.peek s.regs.sp = some 0x78 ∧ s.peek (s.regs.sp + 1) = some 0x56 := by decide

/-- Both paths of `DAA`. -/
theorem witness_DecimalAdjust : (idle []).regs.f.n = false ∧ (machine (withF regs0 0x40) []).regs.f.n = true := by decide

theorem witness_DecimalArithmetic : 99 < 100 ∧ 0 < 100 := by decide

end Sys2Proof.Tests
end

section
/-! PROOFS. Family 00_scope, the step: what a pass keeps, and which instruction it runs. -/

namespace Sys2Proof.Machine

/-- The end of a halt keeps the invariant (R320). -/
theorem woken_inv {s : State} (h : s.Inv) : s.woken.Inv := setRun_inv _ rfl h

/-- A pass of a stopped machine keeps the invariant (R321). -/
theorem stopPass_inv {s : State} (h : s.Inv) : (stopPass s).Inv :=
  inv_ite (setRun_inv _ rfl (poll_inv h)) (poll_inv h)

/-- A pass that executes an instruction keeps the invariant (R405). -/
theorem executes_inv {s t : State} (hs : s.Inv) (hx : s.Executes) (h : step s = .next t) : t.Inv := by
  obtain ⟨u, hu, hstep⟩ := step_executes s hx
  have hform : s.nextInstr.form.wellFormed = true := (Laws.RoundTrip.all _).1
  have huInv : u.Inv := execForm_inv _ hform (fetchInstr_inv (woken_inv hs)) hu
  cases hstep.symm.trans h
  exact finish_inv _ huInv

/-- Settles O6: each of the four kinds of pass keeps the invariant. -/
theorem stepKeepsInvariant : Obligations.StepKeepsInvariant := by
  intro s t hs h
  rcases step_kinds s t h with hx | ⟨-, rfl⟩ | ⟨-, -, rfl⟩ | ⟨-, -, -, rfl⟩
  · exact executes_inv hs hx h
  · exact stopPass_inv hs
  · exact tick_inv hs
  · exact takeInterrupt_inv _ (woken_inv hs)

/-- A running machine with no dispatch due makes a pass of one instruction (R314, R405). -/
theorem step_of_running {s : State} (hr : s.run = .running) (hd : s.ime = false ∨ s.pending = 0) :
    step s = finishResult s.eiPending (exec (fetchInstr s).1 (fetchInstr s).2) := by
  have hno : ¬(s.ime && s.pending != 0) = true := by rcases hd with h | h <;> simp [h]
  simp only [step, pass, hr, runningPass, if_neg hno, instructionPass]

/-- Settles O5: the pass is the fetched instruction, and a fetch from plain storage reads the bytes that stand there. -/
theorem stepRunsTheDecodedInstruction : Obligations.StepRunsTheDecodedInstruction := by
  intro s hr hd
  refine ⟨step_of_running hr hd, fun i hbytes => ?_⟩
  rw [step_of_running hr hd, fetchInstr_of i s hbytes]

end Sys2Proof.Machine
end

section
/-! PROOFS. Family 00_scope: what each instruction costs (R420), and the clock. -/

namespace Sys2Proof.Machine

/-- From `s` to `t` pass `cycles` M-cycles and at most one OAM DMA stall for each of `stores` bytes stored (R13,
R377). -/
def Costs (s t : State) (cycles stores : Nat) : Prop :=
  ∃ n, n ≤ stores ∧ t.clock = s.clock + 4 * cycles + 4 * (n * s.params.dmaStallMCycles)

theorem costs_of_clock {s t : State} {cycles : Nat} (h : t.clock = s.clock + 4 * cycles) : Costs s t cycles 0 :=
  ⟨0, Nat.le_refl 0, by simp [h]⟩

theorem Costs.trans {s t u : State} {c d m k : Nat} (h : Costs s t c m) (hp : t.params = s.params)
    (g : Costs t u d k) : Costs s u (c + d) (m + k) := by
  obtain ⟨n, hn, ht⟩ := h
  obtain ⟨l, hl, hu⟩ := g
  refine ⟨n + l, Nat.add_le_add hn hl, ?_⟩
  rw [hu, ht, hp, Nat.add_mul]
  omega

theorem costs_memWrite (a : Word) (v : Byte) (s : State) : Costs s (memWrite a v s) 1 1 := write_spent a v s

theorem costs_push16 (v : Word) (s : State) : Costs s (push16 v s) 2 2 := push16_spent v s

/-- `MemWrite(addr, 2, v)` is two stores (R13). -/
theorem costs_memWrite16 (a v : Word) (s : State) : Costs s (memWrite16 a v s) 2 2 :=
  (costs_memWrite a (loByte v) s).trans (memWrite_params _ _ _) (costs_memWrite _ _ _)

/-- A read-modify-write at HL is one read and one store (R52). -/
theorem costs_modifyHL (g : Byte → Flags → Alu8) (s : State) : Costs s (modifyHL g s) 2 1 :=
  (costs_of_clock (memRead_clock s.hl s)).trans (memRead_params _ _) (costs_memWrite s.hl _ _)

/-- A call is an internal cycle and a push (R246). -/
theorem costs_callTo (target : Word) (s : State) : Costs s (callTo target s) 3 2 :=
  (costs_of_clock (tick_clock s)).trans (tick_params s) (costs_push16 _ _)

/-- A return is a pop and an internal cycle (R248). -/
theorem costs_returnPc (s : State) : Costs s (returnPc s) 3 0 :=
  costs_of_clock (by simp [returnPc, State.setPc])

/-- A jump is an internal cycle (R241). -/
theorem costs_jumpTo (target : Word) (s : State) : Costs s (jumpTo target s) 1 0 :=
  costs_of_clock (tick_clock s)

/-- A load through memory is one read (R122). -/
theorem costs_loadFrom (p : Place) (d : Reg8) (s : State) :
    Costs s (p.after ((memRead (p.address s) s).2.setReg8 d (memRead (p.address s) s).1)) 1 0 :=
  costs_of_clock ((place_clock _ _).trans (memRead_clock _ _))

/-- A store through memory is one store (R123). -/
theorem costs_storeTo (p : Place) (v : Byte) (s : State) : Costs s (p.after (memWrite (p.address s) v s)) 1 1 := by
  obtain ⟨n, hn, h⟩ := costs_memWrite (p.address s) v s
  exact ⟨n, hn, (place_clock _ _).trans h⟩

/-- A conditional jump of `fetched` bytes is a jump or nothing (R242). -/
theorem costs_jumpIf (cc : Cond) (target : Word) (fetched : Nat) (s : State) :
    Costs s (if condHolds cc s.regs.f then jumpTo target s else s)
      ((if condHolds cc s.regs.f then fetched + 1 else fetched) - fetched) 0 := by
  split
  · rw [Nat.add_sub_cancel_left]
    exact costs_jumpTo _ s
  · rw [Nat.sub_self]
    exact costs_of_clock rfl

/-- A conditional call is a call or nothing (R247). -/
theorem costs_callIf (cc : Cond) (target : Word) (s : State) :
    Costs s (if condHolds cc s.regs.f then callTo target s else s)
      ((if condHolds cc s.regs.f then 6 else 3) - 3) 2 := by
  split
  · exact costs_callTo _ s
  · exact ⟨0, Nat.zero_le 2, by simp⟩

/-- A conditional return is an internal cycle, then a return or nothing (R249). -/
theorem costs_returnIf (cc : Cond) (s : State) :
    Costs s (if condHolds cc (tick s).regs.f then returnPc (tick s) else tick s)
      ((if condHolds cc s.regs.f then 5 else 2) - 1) 0 := by
  have htick : Costs s (tick s) 1 0 := costs_of_clock (tick_clock s)
  rw [tick_regs]
  split
  · exact htick.trans (tick_params s) (costs_returnPc (tick s))
  · exact htick

/-- A form costs the M-cycles of its row beyond its fetch (R420), and the stalls of its stores. -/
theorem execForm_costs (f : Form) (s t : State) (h : execForm f s = .next t) :
    Costs s t (formMCycles f (formTaken f s.regs.f) - f.fetchedLength) (formStores f) := by
  cases f
  case ldRHL | ldABC | ldADE | ldANN | ldAC | ldAN | ldAHLI | ldAHLD => cases h; exact costs_loadFrom _ _ _
  case ldHLR | ldHLN | ldBCA | ldDEA | ldNNA | ldCA | ldNA | ldHLIA | ldHLDA => cases h; exact costs_storeTo _ _ _
  case incHL | decHL | shiftHL | resHL | setHL => cases h; exact costs_modifyHL _ _
  case ldNNSP => cases h; exact costs_memWrite16 _ _ _
  case push =>
    cases h
    exact (costs_of_clock (cycles := 1) (tick_clock s)).trans (tick_params s) (costs_push16 _ _)
  case pop | popAF => cases h; exact costs_of_clock (pop16_clock s)
  case ldSPHL | ldhlSPE | addHLPair | incPair | decPair => cases h; exact costs_of_clock (tick_clock _)
  case addSPE => cases h; exact costs_of_clock (cycles := 2) (by simp [State.setSp, State.setFlags])
  case bitHL | aluHL => cases h; exact costs_of_clock (memRead_clock _ _)
  case jpNN | jrE => cases h; exact costs_jumpTo _ _
  case callNN | rst => cases h; exact costs_callTo _ _
  case ret | reti => cases h; exact costs_returnPc _
  case jpCC => cases h; exact costs_jumpIf _ _ 3 _
  case jrCC => cases h; exact costs_jumpIf _ _ 2 _
  case callCC => cases h; exact costs_callIf _ _ _
  case retCC => cases h; exact costs_returnIf _ _
  all_goals cases h; exact costs_of_clock rfl

/-- The fetch of a form is part of its row's M-cycles (R420). -/
theorem fetchedLength_le_formMCycles (f : Form) (taken : Bool) : f.fetchedLength ≤ formMCycles f taken := by
  cases f <;> cases taken <;> exact Nat.le_of_ble_eq_true rfl

/-- Settles O11: every form completes and costs its row, of which the fetch is part. -/
theorem instructionTiming : Obligations.InstructionTiming := by
  intro i s
  obtain ⟨t, ht⟩ := execForm_next i.form s
  obtain ⟨n, hn, hclock⟩ := execForm_costs i.form s t ht
  have hfetch := fetchedLength_le_formMCycles i.form (formTaken i.form s.regs.f)
  refine ⟨t, n, (exec_eq_execForm i s).trans ht, hn, ?_⟩
  omega

/-- From `s` to `t` pass at least `least` M-cycles, and whole ones (R12, R34). -/
def Takes (s t : State) (least : Nat) : Prop := ∃ n, least ≤ n ∧ t.clock = s.clock + 4 * n

theorem Costs.takes {s t : State} {c m : Nat} (h : Costs s t c m) : Takes s t c := by
  obtain ⟨n, -, h⟩ := h
  exact ⟨c + n * s.params.dmaStallMCycles, by omega, by omega⟩

theorem Takes.trans {s t u : State} {c d : Nat} (h : Takes s t c) (g : Takes t u d) : Takes s u (c + d) := by
  obtain ⟨n, hn, ht⟩ := h
  obtain ⟨m, hm, hu⟩ := g
  exact ⟨n + m, by omega, by omega⟩

theorem Takes.mono {s t : State} {c d : Nat} (h : Takes s t c) (hd : d ≤ c) : Takes s t d := by
  obtain ⟨n, hn, ht⟩ := h
  exact ⟨n, Nat.le_trans hd hn, ht⟩

theorem takes_tick (s : State) : Takes s (tick s) 1 := ⟨1, Nat.le_refl 1, tick_clock s⟩

/-- A fetch reads one byte at least (R14). -/
theorem takes_fetchInstr (s : State) : Takes s (fetchInstr s).2 1 := by
  simp only [fetchInstr]
  split
  · exact ⟨1, by omega, fetch8_clock s⟩
  · exact ⟨1, by omega, fetch8_clock s⟩
  · exact ⟨2, by omega, by simp only [fetch8_clock]⟩
  · exact ⟨3, by omega, by simp only [fetch8_clock]⟩

/-- The last line of a pass takes no time (R405). -/
theorem finishPass_clock (arm : Bool) (s : State) : (finishPass arm s).clock = s.clock := by
  rcases finish_eq arm s with ⟨-, h⟩ | ⟨-, h⟩ <;> rw [h]
  split <;> rfl

/-- A stopped machine's pass takes no time (R321). -/
theorem stopPass_clock (s : State) : (stopPass s).clock = s.clock := by
  simp only [stopPass]
  split <;> simp

/-- A dispatch is three internal cycles and a push (R315). -/
theorem costs_takeInterrupt (k : Source) (s : State) : Costs s (takeInterrupt k s) 5 2 := by
  have hticks : Costs s (tick (tick s)) 2 0 := costs_of_clock (by simp only [tick_clock])
  have hpush := hticks.trans (by simp) (costs_push16 s.regs.pc (tick (tick s)))
  exact hpush.trans (by simp) (costs_of_clock (cycles := 1) (by simp [takeInterrupt, State.setPc]))

/-- A pass that executes an instruction takes an M-cycle at least: its fetch. -/
theorem takes_executes {s t : State} (hx : s.Executes) (h : step s = .next t) : Takes s t 1 := by
  obtain ⟨u, hu, hstep⟩ := step_executes s hx
  have hrun : Takes s.woken u 1 :=
    ((takes_fetchInstr s.woken).trans (execForm_costs _ _ _ hu).takes).mono (Nat.le_add_right 1 _)
  cases hstep.symm.trans h
  obtain ⟨n, hn, hclock⟩ := hrun
  exact ⟨n, hn, (finishPass_clock _ _).trans hclock⟩

/-- Only a stopped machine makes a pass that takes no time (R321). -/
theorem takes_of_not_stopped {s t : State} (h : step s = .next t) (hr : s.run ≠ .stopped) : Takes s t 1 := by
  rcases step_kinds s t h with hx | ⟨hstop, -⟩ | ⟨-, -, rfl⟩ | ⟨-, -, -, rfl⟩
  · exact takes_executes hx h
  · exact absurd hstop hr
  · exact takes_tick s
  · exact (costs_takeInterrupt _ s.woken).takes.mono (by decide)

/-- A step of a stopped machine is its stop pass (R321). -/
theorem step_of_stopped {s : State} (hr : s.run = .stopped) : step s = .next (stopPass s) := by
  simp only [step, pass, hr]

/-- Settles O10: a stop pass takes no time, and every other pass one M-cycle at least. -/
theorem clockMovesForward : Obligations.ClockMovesForward := by
  intro s t h
  by_cases hr : s.run = .stopped
  · cases (step_of_stopped hr).symm.trans h
    have hclock := stopPass_clock s
    exact ⟨by omega, by omega, fun _ => hclock, fun hne => absurd hr hne⟩
  · obtain ⟨n, hn, hclock⟩ := takes_of_not_stopped h hr
    exact ⟨by omega, by omega, fun hstop => absurd hstop hr, fun _ => by omega⟩

end Sys2Proof.Machine
end

section
/-! PROOFS. Family 00_scope: the stack (R15, R154 to R156) and control transfer (R240 to R252). -/

namespace Sys2Proof.Machine

theorem push16_tick_pushes {s : State} (v : Word) : PushesBytes v s (tick s) (push16 v (tick s)) :=
  push16_pushes v s (tick s) (tick_regs s) (tick_mem s) (tick_slots s) (tick_params s)

/-- `Tick(); Push16(v)` with the stack in RAM: three M-cycles, and no setting moves (R15). -/
theorem push16_tick_clock (v : Word) (s : State) (k1 k2 : Nat) (h1 : s.cellOf (s.regs.sp - 1) = some k1)
    (h2 : s.cellOf (s.regs.sp - 2) = some k2) :
    (push16 v (tick s)).clock = s.clock + 12 ∧ (push16 v (tick s)).settings = s.settings := by
  obtain ⟨hclock, hset⟩ := push16_clock v (tick s) k1 k2 (by simpa using h1) (by simpa using h2)
  exact ⟨by rw [hclock, tick_clock], by rw [hset, tick_settings]⟩

theorem sameControl_push16_tick (v : Word) (s : State) : SameControl s (push16 v (tick s)) :=
  ⟨by simp, by simp, by simp, by simp⟩

/-- Settles O46: `PUSH qq` is an internal cycle and `Push16`, which is its two bus writes. -/
theorem pushWritesTheStack : Obligations.PushWritesTheStack := by
  intro p s hp
  refine ⟨push16 (s.regs.getPair p) (tick s), exec_toInstr (.push p) hp s, ?_, sameControl_push16_tick _ s,
    push16_tick_pushes _, push16_tick_clock _ s⟩
  rw [push16_eq, tick_regs]

/-- A byte written to F keeps its bits 7 to 4 (R24). -/
theorem toByte_ofByte (v : Byte) : (Flags.ofByte v).toByte = v &&& 0xF0 := by
  revert v
  decide

/-- `POP qq`: the pair from the word that `Pop16` answers (R155, R156). -/
theorem onlyReads_pop16_setPair (p : Pair) (w : Word) (s : State) : OnlyReads s ((pop16 s).2.setPair p w) 2 :=
  (onlyReads_pop16 s).setRegs _

/-- Settles O47: `POP qq` is `Pop16` and a write of the pair, whose halves are the two bytes read. -/
theorem popReadsTheStack : Obligations.PopReadsTheStack := by
  intro s
  have hword := pop16_eq s
  have hstored (b : Byte) (hb : s.peek s.regs.sp = some b) : (memRead s.regs.sp s).1 = b :=
    congrArg Prod.fst (memRead_of_peek _ _ _ hb)
  refine ⟨(memRead s.regs.sp s).1, _, (memRead s.regs.sp s).2, rfl, rfl, hstored, ?_, ?_, ?_, ?_⟩
  · refine ⟨_, rfl, ?_, onlyReads_pop16_setPair .BC _ s⟩
    simp [State.setPair, Regs.setPair, hword, hi_join, lo_join]
  · refine ⟨_, rfl, ?_, onlyReads_pop16_setPair .DE _ s⟩
    simp [State.setPair, Regs.setPair, hword, hi_join, lo_join]
  · refine ⟨_, rfl, ?_, onlyReads_pop16_setPair .HL _ s⟩
    simp [State.setPair, Regs.setPair, hword, hi_join, lo_join]
  · refine ⟨_, rfl, ?_, ?_, onlyReads_pop16_setPair .AF _ s⟩
    · simp [State.setPair, Regs.setPair, hword, hi_join]
    · simp [State.setPair, Regs.setPair, hword, lo_join, toByte_ofByte]

/-- `Pop16` where plain storage holds the stack: the word of the two bytes (R15). -/
theorem pop16_of_peek (s : State) (lo hi : Byte) (h0 : s.peek s.regs.sp = some lo)
    (h1 : s.peek (s.regs.sp + 1) = some hi) : (pop16 s).1 = joinBytes hi lo := by
  have hnext : ((tick s).setSp (s.regs.sp + 1)).peek (s.regs.sp + 1) = some hi := by
    rw [State.setSp, peek_setRegs, tick_peek, h1]
  rw [pop16_eq, memRead_of_peek _ _ _ h0, memRead_of_peek _ _ _ hnext]

/-- A push to RAM rebinds nothing, so the stack stays in RAM (R15). -/
theorem push16_cellOf (v : Word) (s : State) (k1 k2 : Nat) (h1 : s.cellOf (s.regs.sp - 1) = some k1)
    (h2 : s.cellOf (s.regs.sp - 2) = some k2) (a : Word) : (push16 v s).cellOf a = s.cellOf a := by
  have hfirst (b : Word) : (push8 (hiByte v) s).cellOf b = s.cellOf b := by
    rw [push8_cell _ _ _ h1, cellOf_setMem, tick_cellOf, State.setSp, cellOf_setRegs]
  have hsecond : (push8 (hiByte v) s).cellOf ((push8 (hiByte v) s).regs.sp - 1) = some k2 := by
    rw [hfirst, push8_regs]
    exact (congrArg s.cellOf (Word.sub_one_one s.regs.sp)).trans h2
  rw [push16, push8_cell _ _ _ hsecond, cellOf_setMem, tick_cellOf, State.setSp, cellOf_setRegs, hfirst]

/-- Settles O48: the pop reads the two cells that the push wrote, and SP comes back. -/
theorem pushThenPop : Obligations.PushThenPop := by
  intro v s k1 k2 h1 h2
  have hcell := push16_cellOf v s k1 k2 h1 h2
  have hsp : (push16 v s).regs.sp = s.regs.sp - 2 := by rw [push16_regs]
  obtain ⟨-, hbytes⟩ := push16_pushes v s s rfl rfl rfl rfl
  obtain ⟨hhi, hlo⟩ := hbytes k1 k2 h1 h2
  have hlow : (push16 v s).peek (push16 v s).regs.sp = some (loByte v) := by
    rw [hsp, peek_of_cell _ _ k2 ((hcell _).trans h2), hlo]
  have hhigh : (push16 v s).peek ((push16 v s).regs.sp + 1) = some (hiByte v) := by
    have hnext : s.regs.sp - 2 + 1 = s.regs.sp - 1 := Word.sub_two_add_one s.regs.sp
    rw [hsp, hnext, peek_of_cell _ _ k1 ((hcell _).trans h1), hhi]
  constructor
  · rw [pop16_of_peek _ _ _ hlow hhigh, join_hi_lo]
  · rw [pop16_regs, push16_regs]
    exact congrArg (fun sp => { s.regs with sp := sp }) (BitVec.sub_add_cancel s.regs.sp 2)

/-- A jump: PC, and one internal cycle (R241). -/
theorem jumpTo_spec (target : Word) (s : State) :
    (jumpTo target s).regs = { s.regs with pc := target } ∧ OnlyReads s (jumpTo target s) 1 :=
  ⟨by simp [jumpTo, State.setPc], (onlyReads_tick s).setRegs _⟩

theorem jumpIf_taken {cc : Cond} {s : State} (h : condHolds cc s.regs.f = true) (target : Word) :
    jumpIf cc target s = .next (jumpTo target s) := by
  simp [jumpIf, h]

theorem jumpIf_not_taken {cc : Cond} {s : State} (h : condHolds cc s.regs.f = false) (target : Word) :
    jumpIf cc target s = .next s := by
  simp [jumpIf, h]

/-- Settles O55: a jump taken is `jumpTo` its target, and a jump not taken is no change. -/
theorem jumps : Obligations.Jumps := by
  intro s
  refine ⟨exec_toInstr .jpHL rfl s, fun nn => ⟨_, exec_toInstr (.jpNN nn) rfl s, jumpTo_spec nn s⟩,
    fun e => ⟨_, exec_toInstr (.jrE e) rfl s, jumpTo_spec _ s⟩, fun cc nn hc => ?_, fun cc e hc => ?_,
    fun cc nn e hc => ⟨?_, ?_⟩, rfl, rfl, rfl, rfl⟩
  · exact ⟨_, (exec_toInstr (.jpCC cc nn) rfl s).trans (jumpIf_taken hc nn), jumpTo_spec nn s⟩
  · exact ⟨_, (exec_toInstr (.jrCC cc e) rfl s).trans (jumpIf_taken hc _), jumpTo_spec _ s⟩
  · exact (exec_toInstr (.jpCC cc nn) rfl s).trans (jumpIf_not_taken hc nn)
  · exact (exec_toInstr (.jrCC cc e) rfl s).trans (jumpIf_not_taken hc _)

/-- A form that means `callTo target` calls (R246). -/
theorem calls_of_callTo {f : Form} {target : Word} {s : State} (h : exec f.toInstr s = .next (callTo target s)) :
    Calls f target s := by
  have hcall : callTo target s = (push16 s.regs.pc (tick s)).setPc target := by rw [callTo, tick_regs]
  refine ⟨callTo target s, h, ?_, ?_, ?_, ?_⟩ <;> rw [hcall]
  · rw [push16_eq, tick_regs]
    rfl
  · obtain ⟨h1, h2, h3, h4⟩ := sameControl_push16_tick s.regs.pc s
    exact ⟨h1, h2, h3, h4⟩
  · exact push16_tick_pushes s.regs.pc
  · exact push16_tick_clock s.regs.pc s

/-- Settles O56: a call taken is `callTo` its target, and a call not taken is no change. -/
theorem callsAndRestarts : Obligations.CallsAndRestarts := by
  intro s
  refine ⟨fun nn => calls_of_callTo (exec_toInstr (.callNN nn) rfl s), fun cc nn hc => calls_of_callTo ?_,
    fun cc nn hc => ?_, fun c => calls_of_callTo (exec_toInstr (.rst c) rfl s)⟩
  · rw [exec_toInstr (.callCC cc nn) rfl]
    simp [execForm, callIf, hc]
  · rw [exec_toInstr (.callCC cc nn) rfl]
    simp [execForm, callIf, hc]

/-- A return: `Pop16`, one internal cycle, PC (R248). -/
theorem returnPc_spec (s : State) : OnlyReads s (returnPc s) 3 ∧
    (returnPc s).regs = { s.regs with sp := s.regs.sp + 2, pc := (pop16 s).1 } :=
  ⟨((onlyReads_pop16 s).trans (onlyReads_tick _)).setRegs _, by simp [returnPc, State.setPc]⟩

/-- Settles O57: a return taken is `returnPc`, after the cycle of `RET cc` and before the enable of `RETI`. -/
theorem returns : Obligations.Returns := by
  intro s
  obtain ⟨hreads, hregs⟩ := returnPc_spec s
  obtain ⟨hreads', hregs'⟩ := returnPc_spec (tick s)
  rw [tick_regs] at hregs'
  refine ⟨⟨_, exec_toInstr .ret rfl s, hreads, hregs⟩, fun cc hc => ?_, fun cc hc => ?_,
    ⟨_, _, exec_toInstr .reti rfl s, hreads, rfl, hregs⟩,
    fun lo hi h0 h1 => ⟨pop16_of_peek s lo hi h0 h1, ?_⟩⟩
  · refine ⟨returnPc (tick s), ?_, (onlyReads_tick s).trans hreads', hregs'⟩
    rw [exec_toInstr (.retCC cc) rfl]
    simp [execForm, returnIf, hc]
  · rw [exec_toInstr (.retCC cc) rfl]
    simp [execForm, returnIf, hc]
  · exact pop16_of_peek (tick s) lo hi (by simpa using h0) (by simpa using h1)

end Sys2Proof.Machine
end

section
/-! PROOFS. Family 00_scope: time and the video controller (R12, R372, R378). -/

namespace Sys2Proof.Machine

theorem requestIf_setClock (c : Bool) (k : Source) (s : State) (n : Nat) :
    requestIf c k (s.setClock n) = (requestIf c k s).setClock n := by
  cases c <;> rfl

theorem timerStep_setClock (s : State) (n : Nat) : timerStep (s.setClock n) = (timerStep s).setClock n :=
  requestIf_setClock s.timer.overflows .timer (s.setTimer s.timer.step) n

theorem serialStep_setClock (s : State) (n : Nat) : serialStep (s.setClock n) = (serialStep s).setClock n := by
  simp only [serialStep, apply_ite (State.setClock · n)]
  rfl

theorem compareLy_setClock (s : State) (n : Nat) : compareLy (s.setClock n) = (compareLy s).setClock n :=
  requestIf_setClock (s.video.ly == s.video.lyc && s.video.selectLyc) .lcdStat
    (s.setVideo { s.video with lycEq := s.video.ly == s.video.lyc }) n

theorem renderPixels_setClock (s : State) (n y x : Nat) : renderPixels (s.setClock n) y x = renderPixels s y x := by
  induction x with
  | zero => rfl
  | succ x ih => simp only [renderPixels, ih]; rfl

theorem renderLine_setClock (s : State) (n : Nat) : renderLine (s.setClock n) = (renderLine s).setClock n := by
  simp only [renderLine, renderPixels_setClock]
  rfl

theorem newScanline_setClock (s : State) (n : Nat) : newScanline (s.setClock n) = (newScanline s).setClock n := by
  simp only [newScanline, apply_ite (State.setClock · n), compareLy_setClock]
  rfl

theorem enterOamRead_setClock (s : State) (n : Nat) : enterOamRead (s.setClock n) = (enterOamRead s).setClock n :=
  requestIf_setClock _ _ _ _

theorem enterHblank_setClock (s : State) (n : Nat) : enterHblank (s.setClock n) = (enterHblank s).setClock n := by
  simp only [enterHblank, apply_ite (State.setClock · n), renderLine_setClock, requestIf_setClock]
  rfl

theorem enterVblank_setClock (s : State) (n : Nat) : enterVblank (s.setClock n) = (enterVblank s).setClock n := by
  have h : request .vblank (s.setClock n) = (request .vblank s).setClock n := rfl
  simp only [enterVblank, apply_ite (State.setClock · n), h, requestIf_setClock]
  rfl

theorem videoStep_setClock (s : State) (n : Nat) : videoStep (s.setClock n) = (videoStep s).setClock n := by
  have h (v : Video) : (s.setClock n).setVideo v = (s.setVideo v).setClock n := rfl
  simp only [videoStep, apply_ite (State.setClock · n), h, newScanline_setClock, enterOamRead_setClock,
    enterHblank_setClock, enterVblank_setClock]
  rfl

/-- No peripheral reads the clock. -/
theorem tState_setClock (s : State) (n : Nat) : tState (s.setClock n) = (tState s).setClock n := by
  simp only [tState, timerStep_setClock, serialStep_setClock, videoStep_setClock]

theorem tStates_setClock (m : Nat) (s : State) (n : Nat) : tStates m (s.setClock n) = (tStates m s).setClock n := by
  induction m generalizing s with
  | zero => rfl
  | succ m ih => simp only [tStates, tState_setClock, ih]

/-- An M-cycle is its advance of the clock and four T-states (R411). -/
theorem tick_eq_tStates (s : State) : tick s = tStates 4 (s.setClock (s.clock + 4)) := rfl

/-- `Tick(n)` is its advance of the clock and `4 * n` T-states (R12). -/
theorem tickN_eq_tStates (n : Nat) (s : State) : tickN n s = tStates (4 * n) (s.setClock (s.clock + 4 * n)) := by
  induction n generalizing s with
  | zero => rfl
  | succ n ih =>
    have hclock : s.clock + 4 + 4 * n = s.clock + 4 * (n + 1) := by omega
    have hagain (x y : Nat) : (s.setClock x).setClock y = s.setClock y := rfl
    calc tickN n (tick s)
      _ = tStates (4 * n) ((tick s).setClock (s.clock + 4 * (n + 1))) := by rw [ih, tick_clock, hclock]
      _ = tStates (4 * n) (tStates 4 (s.setClock (s.clock + 4 * (n + 1)))) := by
        rw [tick_eq_tStates, ← tStates_setClock, hagain]
      _ = tStates (4 * (n + 1)) (s.setClock (s.clock + 4 * (n + 1))) := rfl

theorem tStates_timer (n : Nat) (s : State) : (tStates n s).timer = timerSteps n s.timer := by
  induction n generalizing s with
  | zero => rfl
  | succ n ih => simp only [tStates, timerSteps, ih, tState_timer]

theorem tStates_serial (n : Nat) (s : State) : (tStates n s).serial = serialSteps n s.serial := by
  induction n generalizing s with
  | zero => rfl
  | succ n ih => simp only [tStates, serialSteps, ih, tState_serial]

theorem onlyReads_tickN (n : Nat) (s : State) : OnlyReads s (tickN n s) n := by
  induction n generalizing s with
  | zero => exact onlyReads_setRegs_zero s s.regs
  | succ n ih =>
    have h := (onlyReads_tick s).trans (ih (tick s))
    rwa [Nat.add_comm 1 n] at h

/-- Settles O20: `Tick(n)` is `4 * n` T-states, each a step of every peripheral and of nothing else. -/
theorem timeLeavesTheCpuAlone : Obligations.TimeLeavesTheCpuAlone := by
  intro n s
  have h := tickN_eq_tStates n s
  refine ⟨h, ?_, ?_, onlyReads_tickN n s, tickN_regs n s, tickN_slots n s, tickN_input n s, tickN_cartridge n s,
    tickN_draws n s⟩
  · rw [h, tStates_timer, State.setClock_timer]
  · rw [h, tStates_serial, State.setClock_serial]

/-- The mask of a source is its bit (R310). -/
theorem Source.mask_getLsbD (k : Source) (j : Nat) : k.mask.getLsbD j = decide (j = k.bit) := by
  by_cases hj : j < 5
  · have hbits : ∀ i : Fin 5, k.mask.getLsbD i = decide (i.val = k.bit) := by cases k <;> decide
    exact hbits ⟨j, hj⟩
  · have hne : j ≠ k.bit := by cases k <;> simp only [Source.bit] <;> omega
    rw [BitVec.getLsbD_of_ge _ _ (by omega), decide_eq_false hne]

/-- A request sets its own bit of IF (R311). -/
theorem requestIf_getLsbD (c : Bool) (k : Source) (s : State) (j : Nat) :
    (requestIf c k s).irq.flag.getLsbD j = (s.irq.flag.getLsbD j || (c && decide (j = k.bit))) := by
  cases c with
  | false => simp [requestIf]
  | true => simp [requestIf, request, Source.mask_getLsbD]

theorem request_getLsbD (k : Source) (s : State) (j : Nat) :
    (request k s).irq.flag.getLsbD j = (s.irq.flag.getLsbD j || decide (j = k.bit)) :=
  requestIf_getLsbD true k s j

theorem requestIf_lcdStat_getLsbD (c : Bool) (s : State) (j : Nat) :
    (requestIf c .lcdStat s).irq.flag.getLsbD j = (s.irq.flag.getLsbD j || (c && decide (j = 1))) :=
  requestIf_getLsbD c .lcdStat s j

theorem request_vblank_getLsbD (s : State) (j : Nat) :
    (request .vblank s).irq.flag.getLsbD j = (s.irq.flag.getLsbD j || decide (j = 0)) :=
  request_getLsbD .vblank s j

/-- `CompareLY()` requests on a match where STAT selects it (R369). -/
theorem compareLy_getLsbD (s : State) (j : Nat) : (compareLy s).irq.flag.getLsbD j =
    (s.irq.flag.getLsbD j || ((s.video.ly == s.video.lyc && s.video.selectLyc) && decide (j = 1))) :=
  requestIf_getLsbD _ _ _ _

/-- LY is the scanline (R369). -/
theorem ly_beq_lyc (v : Video) (h : v.frameCycle < 70224) :
    (v.ly == v.lyc) = decide (v.frameCycle / 456 = v.lyc.toNat) := by
  have hly : v.ly.toNat = v.frameCycle / 456 := by
    simp only [Video.ly, lineCycles, BitVec.toNat_ofNat]
    omega
  rw [Bool.eq_iff_iff, beq_iff_eq, decide_eq_true_iff, ← BitVec.toNat_inj, hly]

/-- The enabled controller with its frame counter advanced (R372). -/
def State.advanced (s : State) : State :=
  s.setVideo { s.video with frameCycle := (s.video.frameCycle + 1) % frameCycles }

theorem advanced_frameCycle_lt (s : State) : s.advanced.video.frameCycle < 70224 := Nat.mod_lt _ (by decide)

theorem videoStep_of_on (s : State) (h : s.video.displayOn = true) :
    videoStep s = enterVblank (enterHblank (enterOamRead (newScanline s.advanced))) := if_pos h

/-- A new scanline: the compare flag (R372). -/
theorem newScanline_video (s : State) (h : s.video.frameCycle < 70224) : (newScanline s).video = { s.video with
    lycEq := if s.video.frameCycle % 456 = 0 then decide (s.video.frameCycle / 456 = s.video.lyc.toNat)
      else s.video.lycEq } := by
  by_cases hc : s.video.frameCycle % 456 = 0
  · simp [newScanline, lineCycles, hc, ly_beq_lyc _ h]
  · simp [newScanline, lineCycles, hc]

theorem newScanline_getLsbD (s : State) (h : s.video.frameCycle < 70224) (j : Nat) :
    (newScanline s).irq.flag.getLsbD j = (s.irq.flag.getLsbD j || (decide (s.video.frameCycle % 456 = 0) &&
      decide (s.video.frameCycle / 456 = s.video.lyc.toNat) && s.video.statSel.getLsbD 3 && decide (j = 1))) := by
  by_cases hc : s.video.frameCycle % 456 = 0
  · simp [newScanline, lineCycles, hc, compareLy_getLsbD, ly_beq_lyc _ h, Video.selectLyc]
  · simp [newScanline, lineCycles, hc]

theorem enterOamRead_getLsbD (s : State) (j : Nat) :
    (enterOamRead s).irq.flag.getLsbD j = (s.irq.flag.getLsbD j || (decide (s.video.frameCycle < 65664) &&
      decide (s.video.frameCycle % 456 = 0) && s.video.statSel.getLsbD 2 && decide (j = 1))) :=
  requestIf_getLsbD _ _ _ _

theorem enterHblank_getLsbD (s : State) (j : Nat) :
    (enterHblank s).irq.flag.getLsbD j = (s.irq.flag.getLsbD j || (decide (s.video.frameCycle < 65664) &&
      decide (s.video.frameCycle % 456 = 252) && s.video.statSel.getLsbD 0 && decide (j = 1))) := by
  by_cases hc : s.video.frameCycle < activeCycles ∧ s.video.frameCycle % lineCycles = hblankStart
  · have h : enterHblank s = _ := if_pos hc
    obtain ⟨hlt, hmod⟩ : s.video.frameCycle < 65664 ∧ s.video.frameCycle % 456 = 252 := hc
    rw [h, requestIf_lcdStat_getLsbD, renderLine_irq]
    simp [hlt, hmod, Video.selectHblank]
  · have h : enterHblank s = s := if_neg hc
    have hno : ¬(s.video.frameCycle < 65664 ∧ s.video.frameCycle % 456 = 252) := hc
    rw [h, ← Bool.decide_and, decide_eq_false hno]
    simp

theorem enterVblank_getLsbD (s : State) (j : Nat) :
    (enterVblank s).irq.flag.getLsbD j = (s.irq.flag.getLsbD j || (decide (s.video.frameCycle = 65664) &&
      (decide (j = 0) || (s.video.statSel.getLsbD 1 && decide (j = 1))))) := by
  by_cases hc : s.video.frameCycle = activeCycles
  · have h : enterVblank s = _ := if_pos hc
    have heq : s.video.frameCycle = 65664 := hc
    rw [h, State.setEvents_irq, requestIf_lcdStat_getLsbD, request_vblank_getLsbD]
    simp [heq, Video.selectVblank, Bool.or_assoc]
  · have h : enterVblank s = s := if_neg hc
    have hno : s.video.frameCycle ≠ 65664 := hc
    rw [h, decide_eq_false hno]
    simp

/-- The renderer reads video RAM, the video registers and the frame buffer (R373). -/
theorem renderLine_frameBuffer_congr {s t : State} (hm : t.mem = s.mem) (hv : t.video = s.video)
    (hf : t.frameBuffer = s.frameBuffer) : (renderLine t).frameBuffer = (renderLine s).frameBuffer := by
  have hpixel (y x : Nat) : renderPixel t y x = renderPixel s y x := by simp only [renderPixel, hm, hv]
  have hpixels (y n : Nat) : renderPixels t y n = renderPixels s y n := by
    induction n with
    | zero => exact hf
    | succ n ih => simp only [renderPixels, ih, hpixel]
  simp only [renderLine, State.setFrameBuffer_frameBuffer, hpixels, hv]

theorem enterHblank_frameBuffer (s : State) : (enterHblank s).frameBuffer =
    if s.video.frameCycle < 65664 ∧ s.video.frameCycle % 456 = 252 then (renderLine s).frameBuffer
    else s.frameBuffer := by
  simp only [enterHblank, apply_ite State.frameBuffer, requestIf_frameBuffer]
  rfl

theorem enterVblank_events (s : State) : (enterVblank s).events =
    if s.video.frameCycle = 65664 then .frameOut s.frameBuffer :: s.events else s.events := by
  simp only [enterVblank, apply_ite State.events, State.setEvents_events, requestIf_events, requestIf_frameBuffer,
    request_events, request_frameBuffer]
  rfl

section
variable {s : State} (hon : s.video.displayOn = true)
include hon

/-- One T-state of the enabled controller: its registers (R372). -/
theorem videoStep_video_of_on : (videoStep s).video = { s.video with
    frameCycle := s.advanced.video.frameCycle
    lycEq := if s.advanced.video.frameCycle % 456 = 0 then
      decide (s.advanced.video.frameCycle / 456 = s.video.lyc.toNat) else s.video.lycEq } := by
  rw [videoStep_of_on s hon, enterVblank_video, enterHblank_video, enterOamRead_video,
    newScanline_video _ (advanced_frameCycle_lt s)]
  rfl

/-- One T-state of the enabled controller: entering HBlank renders the line (R372). -/
theorem videoStep_frameBuffer_of_on : (videoStep s).frameBuffer =
    if s.advanced.video.frameCycle < 65664 ∧ s.advanced.video.frameCycle % 456 = 252 then
      (renderLine s.advanced).frameBuffer else s.frameBuffer := by
  have hvideo := newScanline_video s.advanced (advanced_frameCycle_lt s)
  rw [videoStep_of_on s hon, enterVblank_frameBuffer, enterHblank_frameBuffer, enterOamRead_video,
    enterOamRead_frameBuffer, newScanline_frameBuffer]
  by_cases hc : s.advanced.video.frameCycle < 65664 ∧ s.advanced.video.frameCycle % 456 = 252
  · have hline : newScanline s.advanced = s.advanced := if_neg (by rw [lineCycles, hc.2]; decide)
    rw [hline, if_pos hc, if_pos hc]
    exact renderLine_frameBuffer_congr (enterOamRead_mem _) (enterOamRead_video _) (enterOamRead_frameBuffer _)
  · rw [hvideo, if_neg hc, if_neg hc]
    rfl

/-- One T-state of the enabled controller: entering VBlank hands the frame to the host (R378). -/
theorem videoStep_events_of_on : (videoStep s).events =
    if s.advanced.video.frameCycle = 65664 then .frameOut s.frameBuffer :: s.events else s.events := by
  rw [videoStep_of_on s hon, enterVblank_events, enterHblank_video, enterOamRead_video,
    newScanline_video _ (advanced_frameCycle_lt s), enterHblank_events, enterOamRead_events, newScanline_events]
  by_cases hc : s.advanced.video.frameCycle = 65664
  · have hframe : (enterHblank (enterOamRead (newScanline s.advanced))).frameBuffer = s.frameBuffer := by
      rw [enterHblank_frameBuffer, enterOamRead_video, newScanline_video _ (advanced_frameCycle_lt s),
        if_neg (by simp [hc]), enterOamRead_frameBuffer, newScanline_frameBuffer]
      rfl
    rw [if_pos hc, if_pos hc, hframe]
    rfl
  · rw [if_neg hc, if_neg hc]
    rfl

/-- One T-state of the enabled controller: the bits of IF (R372). -/
theorem videoStep_getLsbD_of_on (j : Nat) : (videoStep s).irq.flag.getLsbD j =
    (s.irq.flag.getLsbD j ||
      (decide (s.advanced.video.frameCycle % 456 = 0) &&
        decide (s.advanced.video.frameCycle / 456 = s.video.lyc.toNat) && s.video.statSel.getLsbD 3 &&
        decide (j = 1)) ||
      (decide (s.advanced.video.frameCycle < 65664) && decide (s.advanced.video.frameCycle % 456 = 0) &&
        s.video.statSel.getLsbD 2 && decide (j = 1)) ||
      (decide (s.advanced.video.frameCycle < 65664) && decide (s.advanced.video.frameCycle % 456 = 252) &&
        s.video.statSel.getLsbD 0 && decide (j = 1)) ||
      (decide (s.advanced.video.frameCycle = 65664) &&
        (decide (j = 0) || (s.video.statSel.getLsbD 1 && decide (j = 1))))) := by
  have hlt := advanced_frameCycle_lt s
  rw [videoStep_of_on s hon, enterVblank_getLsbD, enterHblank_getLsbD, enterOamRead_getLsbD,
    newScanline_getLsbD _ hlt, enterHblank_video, enterOamRead_video, newScanline_video _ hlt]
  rfl

end

/-- A video step writes the video registers, IF, the frame buffer and the events, and nothing else (R372). -/
theorem videoStep_frame (s : State) : videoStep s =
    (((s.setVideo (videoStep s).video).setIrq (videoStep s).irq).setFrameBuffer (videoStep s).frameBuffer).setEvents
      (videoStep s).events :=
  (State.mk.injEq ..).mpr ⟨videoStep_regs s, videoStep_ime s, videoStep_eiPending s, videoStep_run s,
    videoStep_clock s, videoStep_slots s, videoStep_mem s, rfl, videoStep_timer s, videoStep_serial s, rfl, rfl,
    videoStep_input s, videoStep_cartridge s, videoStep_params s, rfl, videoStep_draws s⟩

/-- The frames handed to the host so far (R378). -/
def State.frameCount (s : State) : Nat := s.events.countP HostEvent.isFrame

/-- Neither the timer nor the serial controller requests VBlank or hands over a frame. -/
theorem serialStep_timerStep_vblank (s : State) : (serialStep (timerStep s)).irq.flag.getLsbD 0 = s.irq.flag.getLsbD 0 ∧
    (serialStep (timerStep s)).frameCount = s.frameCount := by
  have htimer : (timerStep s).irq.flag.getLsbD 0 = s.irq.flag.getLsbD 0 := by
    rw [timerStep, requestIf_getLsbD]
    simp [Source.bit]
  have hcount : (timerStep s).frameCount = s.frameCount := by simp [State.frameCount]
  rw [← htimer, ← hcount]
  generalize timerStep s = u
  simp only [serialStep]
  split
  · exact ⟨by rw [request_getLsbD]; simp [Source.bit], by simp [State.frameCount, HostEvent.isFrame]⟩
  · exact ⟨rfl, rfl⟩

/-- One T-state with the display enabled, in the terms of R378. -/
theorem tState_vblank (s : State) (hon : s.video.displayOn = true) :
    (tState s).video.displayOn = true ∧ (tState s).video.frameCycle = (s.video.frameCycle + 1) % 70224 ∧
    (tState s).irq.flag.getLsbD 0 =
      (s.irq.flag.getLsbD 0 || decide ((s.video.frameCycle + 1) % 70224 = 65664)) ∧
    (tState s).frameCount = s.frameCount + if (s.video.frameCycle + 1) % 70224 = 65664 then 1 else 0 := by
  obtain ⟨hflag, hcount⟩ := serialStep_timerStep_vblank s
  have hvideo : (serialStep (timerStep s)).video = s.video := by simp
  have hadv : (serialStep (timerStep s)).advanced.video.frameCycle = (s.video.frameCycle + 1) % 70224 := by
    rw [State.advanced, hvideo]
    rfl
  have hon' : (serialStep (timerStep s)).video.displayOn = true := by rw [hvideo, hon]
  have hv := videoStep_video_of_on hon'
  rw [hadv, hvideo] at hv
  refine ⟨?_, ?_, ?_, ?_⟩
  · exact (congrArg Video.displayOn hv).trans hon
  · exact congrArg Video.frameCycle hv
  · rw [tState, videoStep_getLsbD_of_on hon', hadv, hflag]
    simp
  · rw [← hcount, tState, State.frameCount, videoStep_events_of_on hon', hadv]
    split
    · exact List.countP_cons_of_pos rfl
    · rfl

theorem tStates_succ (n : Nat) (s : State) : tStates (n + 1) s = tState (tStates n s) := by
  induction n generalizing s with
  | zero => rfl
  | succ n ih => exact ih (tState s)

/-- `n` T-states from a frame counter of 0 (R378). -/
theorem tStates_vblank (s : State) (n : Nat) (hon : s.video.displayOn = true) (h0 : s.video.frameCycle = 0)
    (hflag : s.irq.flag.getLsbD 0 = false) :
    (tStates n s).video.displayOn = true ∧ (tStates n s).video.frameCycle = n % 70224 ∧
    (tStates n s).irq.flag.getLsbD 0 = decide (65664 ≤ n) ∧
    (tStates n s).frameCount = s.frameCount + (n + 4560) / 70224 := by
  induction n with
  | zero => exact ⟨hon, h0, hflag, rfl⟩
  | succ n ih =>
    obtain ⟨ihOn, ihCycle, ihFlag, ihCount⟩ := ih
    obtain ⟨on, cycle, flag, count⟩ := tState_vblank (tStates n s) ihOn
    have hcycle : (n % 70224 + 1) % 70224 = (n + 1) % 70224 := by omega
    rw [ihCycle, hcycle] at cycle flag count
    rw [tStates_succ]
    refine ⟨on, cycle, ?_, ?_⟩
    · rw [flag, ihFlag, ← Bool.decide_or, decide_eq_decide]
      omega
    · rw [count, ihCount]
      split <;> omega

/-- Settles O27: one T-state by the parts of R372, and the count of T-states by induction. -/
theorem videoStepAndVBlank : Obligations.VideoStepAndVBlank := by
  refine ⟨fun s hon => ?_, fun s n hon h0 hflag => (tStates_vblank s n hon h0 hflag).2⟩
  have hbit := videoStep_getLsbD_of_on hon
  refine ⟨s.advanced.video.frameCycle, videoStep s, rfl, rfl, videoStep_frame s, videoStep_video_of_on hon,
    videoStep_frameBuffer_of_on hon, videoStep_events_of_on hon, videoStep_enable s, ?_, ?_, fun j hj => ?_⟩
  · rw [hbit]
    simp
  · rw [hbit]
    simp [or_assoc, and_assoc]
  · have h0 : j ≠ 0 := by omega
    have h1 : j ≠ 1 := by omega
    rw [hbit]
    simp [h0, h1]

end Sys2Proof.Machine
end

section
/-! PROOFS. Family 00_scope: requests stay pending (R311), interrupt dispatch (R315), and the addresses that store
nothing (R55, R63, R66, R68 to R70). -/

namespace Sys2Proof.Machine

/-- Every request pending in `s` is pending in `t` (R311). -/
def KeepsRequests (s t : State) : Prop := ∀ j, s.irq.flag.getLsbD j = true → t.irq.flag.getLsbD j = true

theorem keepsRequests_of_irq {s t : State} (h : t.irq = s.irq) : KeepsRequests s t := fun _ hj => h ▸ hj

theorem KeepsRequests.trans {s t u : State} (h : KeepsRequests s t) (g : KeepsRequests t u) : KeepsRequests s u :=
  fun j hj => g j (h j hj)

/-- The same, from a state with the same IF. -/
theorem KeepsRequests.of_irq {s t u : State} (g : KeepsRequests t u) (h : t.irq = s.irq) : KeepsRequests s u :=
  (keepsRequests_of_irq h).trans g

theorem keepsRequests_ite {c : Prop} [Decidable c] {s t u : State} (ht : KeepsRequests s t) (hu : KeepsRequests s u) :
    KeepsRequests s (if c then t else u) := by
  split
  · exact ht
  · exact hu

theorem keepsRequests_requestIf (c : Bool) (k : Source) (s : State) : KeepsRequests s (requestIf c k s) := by
  intro j hj
  rw [requestIf_getLsbD, hj, Bool.true_or]

theorem keepsRequests_request (k : Source) (s : State) : KeepsRequests s (request k s) :=
  keepsRequests_requestIf true k s

theorem keepsRequests_timerStep (s : State) : KeepsRequests s (timerStep s) :=
  (keepsRequests_requestIf _ _ _).of_irq rfl

theorem keepsRequests_serialStep (s : State) : KeepsRequests s (serialStep s) := by
  simp only [serialStep]
  split
  · exact (keepsRequests_request .serial _).of_irq rfl
  · exact keepsRequests_of_irq rfl

theorem keepsRequests_compareLy (s : State) : KeepsRequests s (compareLy s) :=
  (keepsRequests_requestIf _ _ _).of_irq rfl

theorem keepsRequests_newScanline (s : State) : KeepsRequests s (newScanline s) :=
  keepsRequests_ite (keepsRequests_compareLy s) (keepsRequests_of_irq rfl)

theorem keepsRequests_enterOamRead (s : State) : KeepsRequests s (enterOamRead s) := keepsRequests_requestIf _ _ _

theorem keepsRequests_enterHblank (s : State) : KeepsRequests s (enterHblank s) :=
  keepsRequests_ite ((keepsRequests_requestIf _ _ _).of_irq (renderLine_irq s)) (keepsRequests_of_irq rfl)

theorem keepsRequests_enterVblank (s : State) : KeepsRequests s (enterVblank s) := by
  have hreq (c : Bool) : KeepsRequests s (requestIf c .lcdStat (request .vblank s)) :=
    (keepsRequests_request .vblank s).trans (keepsRequests_requestIf c .lcdStat _)
  simp only [enterVblank]
  split
  · exact (hreq _).trans (keepsRequests_of_irq rfl)
  · exact keepsRequests_of_irq rfl

theorem keepsRequests_videoStep (s : State) : KeepsRequests s (videoStep s) := by
  by_cases hon : s.video.displayOn = true
  · have hline : KeepsRequests s (newScanline s.advanced) := (keepsRequests_newScanline _).of_irq rfl
    rw [videoStep_of_on s hon]
    exact ((hline.trans (keepsRequests_enterOamRead _)).trans (keepsRequests_enterHblank _)).trans
      (keepsRequests_enterVblank _)
  · exact keepsRequests_of_irq (congrArg State.irq (if_neg hon))

theorem keepsRequests_tState (s : State) : KeepsRequests s (tState s) :=
  ((keepsRequests_timerStep s).trans (keepsRequests_serialStep _)).trans (keepsRequests_videoStep _)

theorem keepsRequests_tStates (n : Nat) (s : State) : KeepsRequests s (tStates n s) := by
  induction n generalizing s with
  | zero => exact keepsRequests_of_irq rfl
  | succ n ih => exact (keepsRequests_tState s).trans (ih _)

/-- No passing of time clears a request (R311). -/
theorem keepsRequests_tickN (n : Nat) (s : State) : KeepsRequests s (tickN n s) := by
  rw [tickN_eq_tStates]
  exact (keepsRequests_tStates _ _).of_irq rfl

theorem keepsRequests_tick (s : State) : KeepsRequests s (tick s) := keepsRequests_tickN 1 s

theorem keepsRequests_poll (s : State) : KeepsRequests s (poll s) := (keepsRequests_requestIf _ _ _).of_irq rfl

/-- No bus read clears a request (R311): the only read that writes IF is the poll of P1. -/
theorem keepsRequests_busRead (a : Word) (s : State) : KeepsRequests s (busRead a s).2 := by
  simp only [busRead, handlerRead]
  split
  · exact keepsRequests_of_irq rfl
  · cases s.handler a
    case input =>
      simp only [deviceRead]
      split
      · exact keepsRequests_poll s
      · exact keepsRequests_of_irq rfl
    case triggered => exact keepsRequests_of_irq (rebindIf_irq _ _ _ _ s)
    all_goals exact keepsRequests_of_irq rfl

theorem keepsRequests_dmaCopy (v : Byte) (n i : Nat) (s : State) : KeepsRequests s (dmaCopy v n i s) := by
  induction n generalizing i s with
  | zero => exact keepsRequests_of_irq rfl
  | succ n ih =>
    have hread := keepsRequests_busRead (joinBytes v 0x00 + BitVec.ofNat 16 i) s
    have hbyte : KeepsRequests s (dmaByte v i s) := hread.trans (keepsRequests_of_irq rfl)
    exact hbyte.trans (ih _ _)

theorem keepsRequests_oamDma (v : Byte) (s : State) : KeepsRequests s (oamDma v s) := by
  have hcopy : KeepsRequests s (dmaCopy v oamSize 0 (s.setVideo { s.video with dma := v })) :=
    (keepsRequests_dmaCopy _ _ _ _).of_irq rfl
  exact hcopy.trans (keepsRequests_tickN _ _)

theorem keepsRequests_writeLcdc (v : Byte) (s : State) : KeepsRequests s (writeLcdc v s) := by
  simp only [writeLcdc]
  refine keepsRequests_ite ((keepsRequests_compareLy _).of_irq rfl) (keepsRequests_ite ?_ ?_)
  all_goals exact keepsRequests_of_irq rfl

theorem keepsRequests_writeVideo (a : Word) (v : Byte) (s : State) : KeepsRequests s (writeVideo a v s) := by
  simp only [writeVideo]
  repeat' with_reducible apply keepsRequests_ite
  all_goals first
    | with_reducible exact keepsRequests_writeLcdc v s
    | with_reducible exact (keepsRequests_compareLy _).of_irq rfl
    | exact keepsRequests_of_irq rfl

/-- No bus write clears a request, but one of IF itself (R311, R340). -/
theorem keepsRequests_busWrite (a : Word) (v : Byte) (s : State) (ha : a ≠ 0xFF0F) :
    KeepsRequests s (busWrite a v s) := by
  simp only [busWrite, handlerWrite]
  split
  · exact keepsRequests_of_irq rfl
  · cases s.handler a <;> simp only [deviceWrite]
    case cartridge => exact keepsRequests_of_irq (cartridgeWrite_irq a v s)
    case interruptController =>
      simp only [writeInterrupt, if_neg ha]
      exact keepsRequests_ite (fun _ hj => hj) (keepsRequests_of_irq rfl)
    case videoRegisters => exact keepsRequests_ite (keepsRequests_oamDma v s) (keepsRequests_writeVideo a v s)
    case triggered => exact keepsRequests_of_irq (rebindIf_irq _ _ _ _ s)
    case input | serial | timer =>
      simp only [writeP1, writeSerial, writeTimer]
      repeat' with_reducible apply keepsRequests_ite
      all_goals exact keepsRequests_of_irq rfl
    all_goals exact keepsRequests_of_irq rfl

/-- The two writes of a push clear no request where neither is one of IF. -/
theorem keepsRequests_pushedBytes (v sp : Word) (s : State) (h1 : sp - 1 ≠ 0xFF0F) (h2 : sp - 2 ≠ 0xFF0F) :
    KeepsRequests s (pushedBytes v sp s) := by
  have hhigh := (keepsRequests_tick s).trans (keepsRequests_busWrite (sp - 1) (v.extractLsb' 8 8) _ h1)
  exact (hhigh.trans (keepsRequests_tick _)).trans (keepsRequests_busWrite _ _ _ h2)

/-- An acknowledge clears the bit of its own source and no other (R315). -/
theorem acknowledge_getLsbD_of_ne (k : Source) (s : State) (j : Nat) (hj : j ≠ k.bit)
    (h : s.irq.flag.getLsbD j = true) : (acknowledge k s).irq.flag.getLsbD j = true := by
  have hlt : j < 5 := BitVec.lt_of_getLsbD h
  simp only [acknowledge, State.setIrq_irq, BitVec.getLsbD_and, BitVec.getLsbD_not, Source.mask_getLsbD, h, hj, hlt,
    decide_true, decide_false, Bool.not_false, Bool.and_self]

/-- A running or halted machine with IME set and something pending makes a dispatch (R314, R315, R320). -/
theorem step_of_dispatch {s : State} (hime : s.ime = true) (hp : s.pending ≠ 0)
    (hr : s.run = .running ∨ s.run = .halted) : step s = .next (takeInterrupt (leastSource s.pending) s.woken) := by
  have hrunning : runningPass s.woken = .next (takeInterrupt (leastSource s.pending) s.woken) :=
    if_pos (by rw [Bool.and_eq_true, bne_iff_ne]; exact ⟨hime, hp⟩)
  rcases hr with hr | hr
  · have hwoken : s.woken = s := by rw [State.woken, ← hr]; rfl
    rw [hwoken] at hrunning ⊢
    simp only [step, pass, hr, hrunning]
  · simp only [step, pass, hr, haltedPass, if_neg hp]
    exact hrunning

/-- A dispatch with the registers apart: the push of PC from two M-cycles later, IME, `ei_pending` and the request
cleared, one M-cycle more (R315). -/
theorem takeInterrupt_eq (k : Source) (s : State) : takeInterrupt k s =
    (tick (acknowledge k (((pushedBytes s.regs.pc s.regs.sp (tick (tick s))).setIme false).setEiPending false))).setRegs
      { s.regs with sp := s.regs.sp - 2, pc := k.vector } := by
  have hpush := push16_eq s.regs.pc (tick (tick s))
  rw [tick_regs, tick_regs] at hpush
  have hregs (u : State) (r : Regs) : acknowledge k (((u.setRegs r).setIme false).setEiPending false) =
      (acknowledge k ((u.setIme false).setEiPending false)).setRegs r := rfl
  simp only [takeInterrupt, hpush, hregs, tick_setRegs]
  rfl

/-- A dispatch whose pushes do not write IF keeps every request but its own (R311, R315). -/
theorem takeInterrupt_getLsbD_of_ne (k : Source) (s : State) (j : Nat) (hj : j ≠ k.bit)
    (h1 : s.regs.sp - 1 ≠ 0xFF0F) (h2 : s.regs.sp - 2 ≠ 0xFF0F) (h : s.irq.flag.getLsbD j = true) :
    (takeInterrupt k s).irq.flag.getLsbD j = true := by
  have hpush : KeepsRequests s (pushedBytes s.regs.pc s.regs.sp (tick (tick s))) :=
    ((keepsRequests_tick s).trans (keepsRequests_tick _)).trans (keepsRequests_pushedBytes _ _ _ h1 h2)
  rw [takeInterrupt_eq]
  exact keepsRequests_tick _ j (acknowledge_getLsbD_of_ne k _ j hj (hpush j h))

/-- What a dispatch leaves in memory is what its push leaves (R315). -/
theorem takeInterrupt_mem (k : Source) (s : State) :
    (takeInterrupt k s).mem = (push16 s.regs.pc (tick (tick s))).mem := by
  simp [takeInterrupt, State.setPc]

/-- With the stack in RAM a dispatch costs five M-cycles (R315). -/
theorem takeInterrupt_clock (k : Source) (s : State) (k1 k2 : Nat) (h1 : s.cellOf (s.regs.sp - 1) = some k1)
    (h2 : s.cellOf (s.regs.sp - 2) = some k2) : (takeInterrupt k s).clock = s.clock + 20 := by
  have hpush := (push16_clock s.regs.pc (tick (tick s)) k1 k2 (by simpa using h1) (by simpa using h2)).1
  simp only [takeInterrupt, State.setPc, State.setRegs_clock, tick_clock, acknowledge_clock, State.setEiPending_clock,
    State.setIme_clock, hpush]

/-- Settles O15: the step is `takeInterrupt` of the lowest pending source, and each part of R315 is a fact about it. -/
theorem interruptDispatch : Obligations.InterruptDispatch := by
  intro s hime hp hr
  have heq := takeInterrupt_eq (leastSource s.pending) s.woken
  have hregs : (takeInterrupt (leastSource s.pending) s.woken).regs =
      { s.regs with sp := s.regs.sp - 2, pc := (leastSource s.pending).vector } := congrArg State.regs heq
  refine ⟨_, _, step_of_dispatch hime hp hr, rfl, ?_, hregs, ?_, ?_, ?_,
    fun j hj h1 h2 h => takeInterrupt_getLsbD_of_ne _ s.woken j hj h1 h2 h, ?_,
    fun k1 k2 h1 h2 => takeInterrupt_clock _ s.woken k1 k2 h1 h2⟩
  · rw [hregs]
    exact heq
  · simp [takeInterrupt, State.setPc]
  · simp [takeInterrupt, State.setPc]
  · simp [takeInterrupt, State.setPc, State.woken]
  · have hpush := push16_pushes s.regs.pc s (tick (tick s.woken)) (by simp [State.woken]) (by simp [State.woken])
      (by simp [State.woken]) (by simp [State.woken])
    rw [PushesBytes, takeInterrupt_mem]
    exact hpush

/-- A read where the handler of the address is known. -/
theorem busRead_of_handler {s : State} {a : Word} {h : Handler} (hh : s.handler a = h) :
    busRead a s = handlerRead h a s := by
  rw [busRead, hh]

/-- A write where the handler of the address is known. -/
theorem busWrite_of_handler {s : State} {a : Word} {h : Handler} (hh : s.handler a = h) (v : Byte) :
    busWrite a v s = handlerWrite h a v s := by
  rw [busWrite, hh]

/-- Cartridge ROM reads its image (R66). -/
theorem busRead_rom {s : State} {a : Word} (hh : s.handler a = .cartridge) (hc : s.params.cart ≠ .agent)
    (ha : a.toNat < 0x8000) : busRead a s = (s.mem.read a.toNat, s) := by
  have hstored : cartridgeStored a s = some (s.mem.read a.toNat) := by
    cases hk : s.params.cart <;> simp_all [cartridgeStored]
  simp only [busRead_of_handler hh, handlerRead, storageRead, hstored]

/-- A cartridge that is no agent discards a write outside its RAM (R66). -/
theorem busWrite_cartridge_discards {s : State} {a : Word} (hh : s.handler a = .cartridge)
    (hc : s.params.cart ≠ .agent) (ha : ¬(s.params.cart = .romRam ∧ 0xA000 ≤ a.toNat ∧ a.toNat < 0xC000)) (v : Byte) :
    busWrite a v s = s := by
  have hkey : storageKey s.params.cart .cartridge a = none := if_neg ha
  have hrom : cartridgeWrite a v s = s := by cases hk : s.params.cart <;> simp_all [cartridgeWrite]
  simp only [busWrite_of_handler hh, handlerWrite, hkey, deviceWrite, hrom]

/-- An agent is handed every read of its slots (R66). -/
theorem busRead_agent {s : State} {a : Word} (hh : s.handler a = .cartridge) (hc : s.params.cart = .agent) :
    busRead a s = agentRead a s := by
  have hstored : cartridgeStored a s = none := by simp only [cartridgeStored, hc]
  simp only [busRead_of_handler hh, handlerRead, storageRead, hstored, deviceRead]

/-- An agent is handed every write of its slots (R66). -/
theorem busWrite_agent {s : State} {a : Word} (hh : s.handler a = .cartridge) (hc : s.params.cart = .agent) (v : Byte) :
    busWrite a v s = agentWrite a v s := by
  have hkey : storageKey .agent .cartridge a = none := by simp [storageKey]
  simp only [busWrite_of_handler hh, handlerWrite, hc, hkey, deviceWrite, cartridgeWrite]

/-- The default cartridge has nothing above 0x7FFF (R66). -/
theorem busRead_romOnly_above {s : State} {a : Word} (hh : s.handler a = .cartridge) (hc : s.params.cart = .romOnly)
    (ha : 0x8000 ≤ a.toNat) : busRead a s = (0xFF, s) := by
  have hstored : cartridgeStored a s = some 0xFF := by simp only [cartridgeStored, hc, if_neg (Nat.not_lt.2 ha)]
  simp only [busRead_of_handler hh, handlerRead, storageRead, hstored]

/-- Settles O39: one clause for each handler that stores nothing, and for each kind of cartridge. -/
theorem cartridgeAndAbsentStorage : Obligations.CartridgeAndAbsentStorage := by
  intro s a v _
  refine ⟨fun hh => ⟨busRead_of_handler hh, busWrite_of_handler hh v⟩,
    fun hh => ⟨busRead_of_handler hh, busWrite_of_handler hh v⟩, fun hh => busWrite_of_handler hh v, fun hh => ?_,
    fun hh hc ha => ⟨busRead_rom hh hc ha, busWrite_cartridge_discards hh hc (by omega) v⟩,
    fun hh hc ha => ⟨busRead_romOnly_above hh hc ha, ?_⟩, fun hh hc => ?_⟩
  · rw [busRead_of_handler hh]
    exact ⟨busWrite_of_handler hh v, rfl⟩
  · exact busWrite_cartridge_discards hh (by simp [hc]) (by simp [hc]) v
  · rw [busRead_agent hh hc, busWrite_agent hh hc]
    refine ⟨rfl, fun b rest hb => ?_, fun hb => ?_, rfl⟩
    · simp [agentRead, CartLink.answer, hb]
    · simp [agentRead, CartLink.answer, hb]

end Sys2Proof.Machine
end

section
/-! PROOFS. Family 10_state: the first byte fixes the number of bytes fetched (R90), and where a fetch leaves PC
(R14). -/

namespace Sys2Proof.Machine

/-- The extended table holds well-formed forms of two bytes (R92, R101). -/
theorem cbForm_spec (op2 : Byte) : (cbForm op2).wellFormed = true ∧ (cbForm op2).fetchedLength = 2 := by
  unfold cbForm
  split <;> exact ⟨rfl, rfl⟩

/-- Neither the length of a form of the base table nor its being well formed depends on the operand bytes (R90). -/
theorem baseForm_operands (op n : Byte) (nn : Word) :
    (baseForm op n nn).wellFormed = (baseForm op 0 0).wellFormed ∧
    (baseForm op n nn).fetchedLength = (baseForm op 0 0).fetchedLength := by
  unfold baseForm
  split
  · cases fieldZ op <;> cases fieldY op <;> exact ⟨rfl, rfl⟩
  · exact ⟨rfl, rfl⟩
  · exact ⟨rfl, rfl⟩
  · cases fieldZ op <;> cases fieldY op <;> exact ⟨rfl, rfl⟩

/-- Every opcode byte but the escape opcode gives a well-formed form (R99, R102). -/
theorem baseForm_wellFormed_zero : ∀ op : Byte, op ≠ escapeOpcode → (baseForm op 0 0).wellFormed = true := by
  decide

/-- Any three bytes give a well-formed form (R104). -/
theorem formOfBytes_wellFormed (b0 b1 b2 : Byte) : (formOfBytes b0 b1 b2).wellFormed = true := by
  unfold formOfBytes
  split
  case isTrue => exact (cbForm_spec b1).1
  case isFalse h => exact (baseForm_operands _ _ _).1.trans (baseForm_wellFormed_zero b0 h)

/-- The first byte alone fixes the number of bytes fetched (R90). -/
theorem formOfBytes_fetchedLength (b0 b1 b2 : Byte) : (formOfBytes b0 b1 b2).fetchedLength = fetchCount b0 := by
  unfold fetchCount formOfBytes
  split
  · exact (cbForm_spec b1).2.trans (cbForm_spec 0).2.symm
  · exact (baseForm_operands _ _ _).2.trans (baseForm_operands _ _ _).2.symm

theorem decodeBytes_fetchedLength (b0 b1 b2 : Byte) : (decodeBytes b0 b1 b2).form.fetchedLength = fetchCount b0 := by
  rw [decodeBytes, form_toInstr _ (formOfBytes_wellFormed b0 b1 b2), formOfBytes_fetchedLength]

theorem Form.fetchedLength_range (f : Form) : f.fetchedLength = 1 ∨ f.fetchedLength = 2 ∨ f.fetchedLength = 3 := by
  unfold Form.fetchedLength
  split <;> decide

/-- A fetch leaves PC after the bytes of the instruction fetched (R14, R18). -/
theorem fetchInstr_pc (s : State) :
    (fetchInstr s).2.regs.pc = s.regs.pc + BitVec.ofNat 16 (fetchInstr s).1.form.fetchedLength := by
  have hcount : fetchCount (fetch8 s).1 = 1 ∨ fetchCount (fetch8 s).1 = 2 ∨ fetchCount (fetch8 s).1 = 3 :=
    Form.fetchedLength_range _
  rcases hcount with hc | hc | hc
  all_goals simp [fetchInstr, hc, decodeBytes_fetchedLength, Word.add_one_one, Word.add_three]

end Sys2Proof.Machine
end

section
/-! PROOFS. Family 10_state: what a pass does to IME, `ei_pending` and the run state (R32, R33, R320, R321, R405). -/

namespace Sys2Proof.Machine

theorem finishPass_run (arm : Bool) (s : State) : (finishPass arm s).run = s.run := by
  rcases finish_eq arm s with ⟨-, h⟩ | ⟨-, h⟩ <;> rw [h]
  split <;> rfl

/-- A pass that raised the exception ended before its last line (R16, R301). -/
theorem finishPass_of_faulted (arm : Bool) {s : State} {op : Byte} {pc : Word} {extended : Bool}
    (h : s.run = .faulted op pc extended) : finishPass arm s = s := by
  simp only [finishPass, h]

/-- The delayed enable of `EI` (R266, R405). -/
theorem finishPass_of_not_faulted (arm : Bool) {s : State} (h : s.isFaulted = false) :
    (finishPass arm s).ime = (s.ime || (arm && s.eiPending)) ∧ (finishPass arm s).eiPending = (s.eiPending && !arm) := by
  rcases finish_eq arm s with ⟨⟨op, pc, extended, hrun⟩, -⟩ | ⟨-, heq⟩
  · simp [State.isFaulted, hrun] at h
  · rw [heq]
    cases arm <;> cases hei : s.eiPending <;> simp [hei]

/-- IME after a pass of `s` that executes the form `f` (R32): set by `RETI` and by the delayed enable, cleared by `DI`;
the exception ends its pass before the delayed enable (R301). -/
def imeAfter (f : Form) (s : State) : Bool :=
  match f with
  | .reti => true
  | .di => false
  | .undefined _ => s.ime
  | _ => s.ime || s.eiPending

/-- `ei_pending` after a pass of `s` that executes the form `f` (R265, R266). -/
def eiPendingAfter (f : Form) (s : State) : Bool :=
  match f with
  | .ei => !s.eiPending
  | .undefined _ => s.eiPending
  | _ => false

/-- The run state after a pass of `s` that executes the form `f` (R33). -/
def runAfter (f : Form) (s : State) : RunState :=
  match f with
  | .halt => .halted
  | .stop => .stopped
  | .undefined op => .faulted op s.regs.pc false
  | _ => .running

/-- The state after the fetch of a pass that executes an instruction, as the instruction meets it (R14, R320). -/
structure Fetched (f : Form) (s v : State) : Prop where
  ime : v.ime = s.ime
  eiPending : v.eiPending = s.eiPending
  run : v.run = .running
  pc : v.regs.pc = s.regs.pc + BitVec.ofNat 16 f.fetchedLength

theorem fetched_nextInstr (s : State) : Fetched s.nextInstr.form s (fetchInstr s.woken).2 := by
  obtain ⟨hime, hei, hrun, -⟩ := fetch_ctl s.woken
  exact ⟨hime, hei, hrun, fetchInstr_pc s.woken⟩

/-- The instruction and the last line of its pass, put together (R405). -/
theorem finishPass_control {f : Form} {s v u : State} (hv : Fetched f s v) (hu : ControlAfter f v u) :
    (finishPass s.eiPending u).ime = imeAfter f s ∧ (finishPass s.eiPending u).eiPending = eiPendingAfter f s ∧
    (finishPass s.eiPending u).run = runAfter f s := by
  obtain ⟨hime, hei, hrun, hpc⟩ := hv
  rw [finishPass_run]
  unfold ControlAfter at hu
  split at hu <;> obtain ⟨huime, huei, hurun⟩ := hu
  case h_6 op =>
    have hpc0 : v.regs.pc - 1 = s.regs.pc := by
      rw [hpc]
      exact BitVec.add_sub_cancel s.regs.pc 1
    rw [finishPass_of_faulted _ hurun, hurun, hpc0]
    exact ⟨huime.trans hime, huei.trans hei, rfl⟩
  all_goals
    have hawake : u.isFaulted = false := by simp [State.isFaulted, hurun, hrun]
    obtain ⟨hfime, hfei⟩ := finishPass_of_not_faulted s.eiPending hawake
    rw [hfime, hfei]
    simp [huime, huei, hurun, hime, hei, hrun, imeAfter, eiPendingAfter, runAfter]

/-- What a pass that executes an instruction does to IME, `ei_pending` and the run state (R32, R33, R405). -/
theorem executes_control {s t : State} (hx : s.Executes) (h : step s = .next t) :
    t.ime = imeAfter s.nextInstr.form s ∧ t.eiPending = eiPendingAfter s.nextInstr.form s ∧
    t.run = runAfter s.nextInstr.form s := by
  obtain ⟨u, hu, hstep⟩ := step_executes s hx
  cases hstep.symm.trans h
  exact finishPass_control (fetched_nextInstr s) (ctl_after _ _ _ hu)

/-- The forms that change IME (R32). -/
theorem imeAfter_of_ne {f : Form} {s : State} (h : imeAfter f s ≠ s.ime) :
    (imeAfter f s = true ∧ (f = .reti ∨ (s.eiPending = true ∧ f ≠ .di))) ∨ (imeAfter f s = false ∧ f = .di) := by
  unfold imeAfter at h ⊢
  split at h
  · exact .inl ⟨rfl, .inl rfl⟩
  · exact .inr ⟨rfl, rfl⟩
  · exact absurd rfl h
  case h_4 hdi _ =>
    cases hei : s.eiPending with
    | false =>
      rw [hei, Bool.or_false] at h
      exact absurd rfl h
    | true => exact .inl ⟨Bool.or_true _, .inr ⟨rfl, hdi⟩⟩

/-- An `EI` of an earlier pass takes effect in every pass but that of `DI` and of an undefined opcode (R266). -/
theorem after_delayed_enable {f : Form} {s : State} (hon : s.eiPending = true) (hdi : f ≠ .di)
    (hdef : ∀ op, f ≠ .undefined op) : imeAfter f s = true ∧ eiPendingAfter f s = false := by
  constructor
  · unfold imeAfter
    split
    · rfl
    · exact absurd rfl hdi
    · exact absurd rfl (hdef _)
    · rw [hon, Bool.or_true]
  · unfold eiPendingAfter
    split
    · rw [hon]
      rfl
    · exact absurd rfl (hdef _)
    · rfl

/-- The forms that leave a machine not running (R33). -/
theorem runAfter_cases (f : Form) (s : State) : runAfter f s = .running ∨ (runAfter f s = .halted ∧ f = .halt) ∨
    (runAfter f s = .stopped ∧ f = .stop) ∨
    ∃ op, runAfter f s = .faulted op s.regs.pc false ∧ f = .undefined op := by
  unfold runAfter
  split
  · exact .inr (.inl ⟨rfl, rfl⟩)
  · exact .inr (.inr (.inl ⟨rfl, rfl⟩))
  · exact .inr (.inr (.inr ⟨_, rfl, rfl⟩))
  · exact .inl rfl

theorem stopPass_ime (s : State) : (stopPass s).ime = s.ime := by
  simp only [stopPass]
  split <;> simp

/-- Only a press ends a stop (R321). -/
theorem stopPass_run (s : State) : (stopPass s).run = if s.pressSeen then .running else s.run := by
  simp only [stopPass]
  split <;> simp

theorem stopPass_eq (s : State) : stopPass s =
    ((s.setRun (stopPass s).run).setIrq (stopPass s).irq).setInput s.input.polled := by
  simp only [stopPass, poll, requestIf]
  split <;> rfl

theorem stopPass_irq (s : State) : (stopPass s).irq = (poll s).irq := by
  simp only [stopPass]
  split <;> rfl

/-- A dispatch clears IME (R315). -/
theorem takeInterrupt_ime (k : Source) (s : State) : (takeInterrupt k s).ime = false := by
  simp [takeInterrupt, State.setPc]

theorem takeInterrupt_run (k : Source) (s : State) : (takeInterrupt k s).run = s.run := by
  simp [takeInterrupt, State.setPc]

/-- A halted machine with nothing pending idles (R320). -/
theorem step_of_idle {s : State} (hr : s.run = .halted) (hp : s.pending = 0) : step s = .next (tick s) := by
  simp only [step, pass, hr, haltedPass, if_pos hp]

/-- A halted machine with something pending makes the pass of the running machine (R320). -/
theorem step_of_wake {s : State} (hr : s.run = .halted) (hp : s.pending ≠ 0) :
    step s = step (s.setRun .running) := by
  simp only [step, pass, hr, haltedPass, if_neg hp, State.setRun_run]

/-- Settles O12: only a pass that executes an instruction and a dispatch can change IME. -/
theorem onlyTheseChangeIme : Obligations.OnlyTheseChangeIme := by
  intro s t h hne
  rcases step_kinds s t h with hx | ⟨-, rfl⟩ | ⟨-, -, rfl⟩ | ⟨hr, -, hp, rfl⟩
  · obtain ⟨hime, -, -⟩ := executes_control hx h
    rw [hime] at hne ⊢
    rcases imeAfter_of_ne hne with ⟨hon, hreti | ⟨hei, hdi⟩⟩ | ⟨hoff, hdi⟩
    · exact .inl ⟨hon, hx, .inl (form_inj _ .reti hreti)⟩
    · exact .inl ⟨hon, hx, .inr ⟨hei, fun hi => hdi (congrArg Instr.form hi)⟩⟩
    · exact .inr (.inl ⟨hoff, hx, form_inj _ .di hdi⟩)
  · exact absurd (stopPass_ime s) hne
  · exact absurd (tick_ime s) hne
  · exact .inr (.inr ⟨takeInterrupt_ime _ _, hr, hp⟩)

/-- Settles O13: a stop pass, an idle pass, and for a running machine the pass of an instruction or a dispatch. -/
theorem onlyTheseChangeTheRunState : Obligations.OnlyTheseChangeTheRunState := by
  intro s t h
  refine ⟨fun hr => ?_, fun hr hp => ?_, fun hr => ?_⟩
  · cases (step_of_stopped hr).symm.trans h
    rw [stopPass_run, hr]
    split
    case isTrue hpress => exact .inr ⟨rfl, hpress⟩
    case isFalse => exact .inl rfl
  · cases (step_of_idle hr hp).symm.trans h
    exact (tick_run s).trans hr
  · rcases step_kinds s t h with hx | ⟨hstop, -⟩ | ⟨hhalt, -, -⟩ | ⟨-, -, -, rfl⟩
    · obtain ⟨-, -, hrun⟩ := executes_control hx h
      rw [hrun]
      rcases runAfter_cases s.nextInstr.form s with hawake | ⟨hhalt, hf⟩ | ⟨hstop, hf⟩ | hfault
      · exact .inl hawake
      · exact .inr ⟨hx, .inl ⟨hhalt, form_inj _ .halt hf⟩⟩
      · exact .inr ⟨hx, .inr (.inl ⟨hstop, form_inj _ .stop hf⟩)⟩
      · exact .inr ⟨hx, .inr (.inr hfault)⟩
    · simp [hr] at hstop
    · simp [hr] at hhalt
    · exact .inl (takeInterrupt_run _ s.woken)

/-- Settles O14: what the passes of `EI`, of `DI` and of any other instruction leave in IME and `ei_pending`. -/
theorem eiTakesEffectAfterOneInstruction : Obligations.EiTakesEffectAfterOneInstruction := by
  intro s t hx h
  obtain ⟨hime, hei, -⟩ := executes_control hx h
  refine ⟨fun hoff hnext => ?_, fun hon hdi hdef => ?_, fun hnext => ?_⟩
  · have hform : s.nextInstr.form = .ei := congrArg Instr.form hnext
    rw [hime, hei, hform]
    simp [imeAfter, eiPendingAfter, hoff]
  · rw [hime, hei]
    exact after_delayed_enable hon (fun hf => hdi (form_inj _ .di hf))
      fun op hf => by simp [isUndefined, hf] at hdef
  · rw [hime, hei, hnext]
    exact ⟨rfl, rfl⟩

/-- Settles O17: the two cases of `haltedPass`. -/
theorem haltIdlesOrWakes : Obligations.HaltIdlesOrWakes := fun s hr =>
  ⟨fun hp => ⟨step_of_idle hr hp, onlyReads_tick s, tick_regs s⟩, step_of_wake hr⟩

/-- Settles O18: the pass is the poll, and a press also ends the stop. -/
theorem stopPassOnlyPolls : Obligations.StopPassOnlyPolls := by
  intro s hr
  refine ⟨stopPass s, step_of_stopped hr, stopPass_eq s, ?_, ?_, fun j _ => ?_⟩
  · rw [stopPass_irq, poll_enable]
  · rw [stopPass_run, hr]
  · rw [stopPass_irq, poll, requestIf_getLsbD]
    rfl

end Sys2Proof.Machine
end

section
/-! PROOFS. Family 10_state: reset and the launch configurations (R40, R403, R404). -/

namespace Sys2Proof.Machine

/-- The serial controller at a launch (R40). -/
theorem serialReset_ok (line : List Bool) : Serial.Ok { Serial.reset with line := line } :=
  ⟨Nat.zero_lt_succ _, Nat.zero_le _, fun _ => Nat.zero_lt_succ _⟩

/-- The video controller at a launch without post-boot values (R40). -/
theorem videoReset_ok : Video.reset.Ok := ⟨Nat.zero_lt_succ _, fun _ => rfl⟩

section
variable {l : Launch} (hmem : MemOk l.cart l.mem) (hframe : FrameOk l.frameBuffer)
include hmem hframe

theorem launchCartridge_inv : (launchCartridge l).Inv :=
  (State.inv_iff _).2 ⟨hmem, hframe, .inl rfl, videoReset_ok, serialReset_ok l.line, rfl, rfl⟩

theorem launchBootRom_inv (image : List Byte) : (launchBootRom image l).Inv :=
  (State.inv_iff _).2 ⟨hmem, hframe, .inr ⟨rfl, rfl⟩, videoReset_ok, serialReset_ok l.line, rfl, rfl⟩

/-- The post-boot state has its display enabled, so its frame counter may stand anywhere in range (R374, R403). -/
theorem launchPostBoot_inv (div : Word) {frameCycle : Nat} (tima : Byte) (hcycle : frameCycle < frameCycles) :
    (launchPostBoot l div frameCycle tima).Inv := by
  have hon : (launchPostBoot l div frameCycle tima).video.displayOn = true := by
    simp [launchPostBoot, Video.displayOn]
  exact (State.inv_iff _).2 ⟨hmem, hframe, .inl rfl, ⟨hcycle, fun hoff => absurd hon (by simp [hoff])⟩,
    serialReset_ok l.line, rfl, rfl⟩

end

theorem reset_inv : State.reset.Inv :=
  (State.inv_iff _).2 ⟨⟨rfl, by simp [State.reset]⟩, ⟨rfl, by simp [State.reset]⟩, .inl rfl, videoReset_ok,
    serialReset_ok [], rfl, rfl⟩

/-- Settles O7: each launch has each part of the invariant. -/
theorem launchHasInvariant : Obligations.LaunchHasInvariant := by
  refine ⟨reset_inv, fun l image div frameCycle tima hm hcells hf hpixels hcycle => ?_⟩
  have hmem : MemOk l.cart l.mem := ⟨hm, hcells⟩
  have hframe : FrameOk l.frameBuffer := ⟨hf, hpixels⟩
  exact ⟨launchCartridge_inv hmem hframe, launchBootRom_inv hmem hframe image,
    launchPostBoot_inv hmem hframe div tima hcycle⟩

/-- Bits 3 to 0 of F are zero (R24). -/
theorem toByte_lowNibble (f : Flags) : f.toByte.extractLsb' 0 4 = 0b0000 := by
  obtain ⟨z, n, h, c⟩ := f
  cases z <;> cases n <;> cases h <;> cases c <;> rfl

/-- What IF, SC, STAT and LY read as at reset (R40). -/
theorem reads_of_reset (s : State) (hirq : s.irq = State.reset.irq) (hrun : s.serial.running = false)
    (hinternal : s.serial.internal = false) (hvideo : s.video = Video.reset) :
    readIF s = 0xE0 ∧ readSerial 0xFF02 s = 0x7E ∧ readStat s = 0x82 ∧ s.video.ly = 0x00 := by
  refine ⟨?_, ?_, ?_, ?_⟩
  · rw [readIF, hirq]
    decide
  · simp [readSerial, hrun, hinternal]
  · rw [readStat, hvideo]
    decide
  · rw [hvideo]
    decide

/-- Settles O8: the values are those of `State.reset`, which both launches take over. -/
theorem resetValues : Obligations.ResetValues := by
  intro l image
  refine ⟨?_, rfl, rfl⟩
  rintro s (rfl | rfl)
  all_goals
    obtain ⟨hif, hsc, hstat, hly⟩ := reads_of_reset _ rfl rfl rfl rfl
    exact ⟨rfl, toByte_lowNibble _, rfl, rfl, rfl, rfl, hif, rfl, rfl, rfl, hsc, rfl, rfl, rfl, rfl, rfl, hstat, rfl,
      rfl, hly, rfl, rfl, rfl, rfl, rfl, rfl, rfl, rfl, rfl, rfl, rfl⟩

end Sys2Proof.Machine
end

section
/-! PROOFS. Family 20_memory: the interconnect table (R56, R58, R62). -/

namespace Sys2Proof.Machine

/-- No run of the table ends inside a range: the range has one handler. -/
theorem SlotTable.slot_eq_slot_of_no_end {t : SlotTable} {lo hi : Nat} (h : ∀ c ∈ t, c.1 < lo ∨ hi ≤ c.1) {a : Nat}
    (hlo : lo ≤ a) (hhi : a ≤ hi) : t.slot a = t.slot lo := by
  induction t with
  | nil => rfl
  | cons c t ih =>
    have hsame : a ≤ c.1 ↔ lo ≤ c.1 := by have := h c (by simp); omega
    simp only [SlotTable.slot, hsame, ih fun d hd => h d (by simp [hd])]

/-- The ranges of R62 above the boot ROM, with their handlers. -/
def mapRanges : List (Nat × Nat × Handler) :=
  [(0x0100, 0x7FFF, .cartridge), (0x8000, 0x9FFF, .videoRam), (0xA000, 0xBFFF, .cartridge),
    (0xC000, 0xDFFF, .workRam), (0xE000, 0xFDFF, .workRam), (0xFE00, 0xFE9F, .oam), (0xFEA0, 0xFEFF, .unusable),
    (0xFF00, 0xFF00, .input), (0xFF01, 0xFF02, .serial), (0xFF03, 0xFF03, .unmapped), (0xFF04, 0xFF07, .timer),
    (0xFF08, 0xFF0E, .unmapped), (0xFF0F, 0xFF0F, .interruptController), (0xFF10, 0xFF3F, .sound),
    (0xFF40, 0xFF4B, .videoRegisters), (0xFF4C, 0xFF4F, .unmapped), (0xFF50, 0xFF50, lockout),
    (0xFF51, 0xFF7F, .unmapped), (0xFF80, 0xFFFE, .highRam), (0xFFFF, 0xFFFF, .interruptController)]

/-- In both maps a range of R62 lies within one run. -/
theorem mapRanges_within_runs {t : SlotTable} (ht : t = slotsWithBootRom ∨ t = slotsWithCartridge) :
    ∀ r ∈ mapRanges, (∀ c ∈ t, c.1 < r.1 ∨ r.2.1 ≤ c.1) ∧ t.slot r.1 = r.2.2 := by
  rcases ht with rfl | rfl <;> decide

theorem slot_of_mapRanges {t : SlotTable} (ht : t = slotsWithBootRom ∨ t = slotsWithCartridge)
    {r : Nat × Nat × Handler} (hr : r ∈ mapRanges) {a : Nat} (hlo : r.1 ≤ a) (hhi : a ≤ r.2.1) : t.slot a = r.2.2 := by
  obtain ⟨hend, hfirst⟩ := mapRanges_within_runs ht r hr
  exact (SlotTable.slot_eq_slot_of_no_end hend hlo hhi).trans hfirst

theorem slotsWithBootRom_slot_low {a : Nat} (ha : a ≤ 0x00FF) : slotsWithBootRom.slot a = .bootRom := if_pos ha

theorem slotsWithCartridge_slot_rom {a : Nat} (ha : a ≤ 0x7FFF) : slotsWithCartridge.slot a = .cartridge := if_pos ha

/-- Settles O34: each range lies within one run of the table. -/
theorem memoryMap : Obligations.MemoryMap :=
  ⟨fun _ ha => ⟨slotsWithBootRom_slot_low ha, slotsWithCartridge_slot_rom (by omega)⟩,
    fun _ ht _ hr _ hlo hhi => slot_of_mapRanges ht hr hlo hhi⟩

/-- The handler of an address in a range of R62, in both maps. -/
theorem handler_of_mapped {s : State} (hs : s.mapped) {lo hi : Nat} {h : Handler} (hr : (lo, hi, h) ∈ mapRanges)
    {a : Word} (hlo : lo ≤ a.toNat) (hhi : a.toNat ≤ hi) : s.handler a = h :=
  slot_of_mapRanges hs.symm hr hlo hhi

/-- Runs that end below an address do not serve it. -/
theorem SlotTable.slot_append_of_lt {l : SlotTable} {a : Nat} (h : ∀ c ∈ l, c.1 < a) (r : SlotTable) :
    SlotTable.slot (l ++ r) a = r.slot a := by
  induction l with
  | nil => rfl
  | cons c l ih =>
    have hc : ¬a ≤ c.1 := Nat.not_le.2 (h c (by simp))
    simp only [List.cons_append, SlotTable.slot, if_neg hc, ih fun d hd => h d (by simp [hd])]

/-- Every run below `lo` ends there: with a run of the table, or just below `lo`. -/
theorem SlotTable.mem_below {t : SlotTable} {start lo : Nat} {c : Nat × Handler} (hc : c ∈ t.below start lo) :
    c.1 < lo ∧ (c ∈ t ∨ c.1 = lo - 1) := by
  induction t generalizing start with
  | nil => simp [SlotTable.below] at hc
  | cons d t ih =>
    obtain ⟨last, h⟩ := d
    simp only [SlotTable.below] at hc
    split at hc
    case isTrue hlast =>
      rcases List.mem_cons.1 hc with rfl | hc
      · exact ⟨hlast, .inl (by simp)⟩
      · obtain ⟨hlt, hmem⟩ := ih hc
        exact ⟨hlt, hmem.imp_left (List.mem_cons_of_mem _)⟩
    case isFalse =>
      split at hc
      case isTrue hstart =>
        rw [List.mem_singleton.1 hc]
        exact ⟨by simp only; omega, .inr rfl⟩
      case isFalse => simp at hc

/-- Below `lo` the runs below `lo` serve as the table does, if the table reaches `lo`. -/
theorem SlotTable.slot_below_append {t : SlotTable} {start lo a : Nat} (hstart : start ≤ a) (ha : a < lo)
    (hreach : ∃ c ∈ t, lo ≤ c.1) (r : SlotTable) : SlotTable.slot (t.below start lo ++ r) a = t.slot a := by
  induction t generalizing start with
  | nil => simp at hreach
  | cons d t ih =>
    obtain ⟨last, h⟩ := d
    by_cases hlast : last < lo
    · have htail : ∃ c ∈ t, lo ≤ c.1 := by
        obtain ⟨c, hc, hlo⟩ := hreach
        rcases List.mem_cons.1 hc with rfl | hc
        · exact absurd hlast (Nat.not_lt.2 hlo)
        · exact ⟨c, hc, hlo⟩
      by_cases hal : a ≤ last
      · simp only [SlotTable.below, if_pos hlast, List.cons_append, SlotTable.slot, if_pos hal]
      · simp only [SlotTable.below, if_pos hlast, List.cons_append, SlotTable.slot, if_neg hal]
        exact ih (by omega) htail
    · have hcut : start < lo := by omega
      have hin : a ≤ lo - 1 := by omega
      have hserves : a ≤ last := by omega
      simp only [SlotTable.below, if_neg hlast, if_pos hcut, List.cons_append, SlotTable.slot, if_pos hin,
        if_pos hserves]

theorem SlotTable.lt_of_mem_above {t : SlotTable} {hi : Nat} (hsorted : t.Pairwise fun c d => c.1 < d.1)
    {c : Nat × Handler} (hc : c ∈ t.above hi) : hi < c.1 := by
  induction t with
  | nil => simp [SlotTable.above] at hc
  | cons d t ih =>
    obtain ⟨hd, ht⟩ := List.pairwise_cons.1 hsorted
    simp only [SlotTable.above] at hc
    split at hc
    case isTrue => exact ih ht hc
    case isFalse hlast =>
      rcases List.mem_cons.1 hc with rfl | hc
      · exact Nat.not_le.1 hlast
      · exact Nat.lt_trans (Nat.not_le.1 hlast) (hd c hc)

/-- The runs above `hi` are an end of the table. -/
theorem SlotTable.above_sublist (t : SlotTable) (hi : Nat) : (t.above hi).Sublist t := by
  induction t with
  | nil => exact .slnil
  | cons d t ih =>
    simp only [SlotTable.above]
    split
    · exact ih.cons d
    · exact .refl _

/-- Above `hi` the runs above `hi` serve as the table does. -/
theorem SlotTable.slot_above {hi a : Nat} (ha : hi < a) (t : SlotTable) : (t.above hi).slot a = t.slot a := by
  induction t with
  | nil => rfl
  | cons d t ih =>
    obtain ⟨last, h⟩ := d
    by_cases hlast : last ≤ hi
    · have hout : ¬a ≤ last := by omega
      simp only [SlotTable.above, if_pos hlast, SlotTable.slot, if_neg hout, ih]
    · simp only [SlotTable.above, if_neg hlast]

/-- Joining drops runs and changes none. -/
theorem SlotTable.join_sublist (t : SlotTable) : (SlotTable.join t).Sublist t := by
  induction t with
  | nil => exact .slnil
  | cons d t ih =>
    simp only [SlotTable.join]
    split
    case h_1 => exact (List.nil_sublist t).cons_cons d
    case h_2 hjoin =>
      rw [hjoin] at ih
      split
      · exact ih.cons d
      · exact ih.cons_cons d

/-- In a table in address order, joining changes no entry. -/
theorem SlotTable.slot_join {t : SlotTable} (hsorted : t.Pairwise fun c d => c.1 ≤ d.1) (a : Nat) :
    (SlotTable.join t).slot a = t.slot a := by
  induction t with
  | nil => rfl
  | cons d t ih =>
    obtain ⟨last, h⟩ := d
    obtain ⟨hd, ht⟩ := List.pairwise_cons.1 hsorted
    rw [SlotTable.slot, ← ih ht]
    simp only [SlotTable.join]
    split
    case h_1 hjoin => rw [hjoin]; rfl
    case h_2 last2 h2 t2 hjoin =>
      have hle : last ≤ last2 := hd (last2, h2) ((SlotTable.join_sublist t).subset (by simp [hjoin]))
      rw [hjoin]
      split
      case isFalse => rfl
      case isTrue heq =>
        subst heq
        by_cases hal : a ≤ last
        · have hal2 : a ≤ last2 := Nat.le_trans hal hle
          simp only [SlotTable.slot, if_pos hal, if_pos hal2]
        · simp only [if_neg hal]

/-- The runs below `lo` are in address order. -/
theorem SlotTable.pairwise_below {t : SlotTable} (hsorted : t.Pairwise fun c d => c.1 < d.1) (start lo : Nat) :
    (t.below start lo).Pairwise fun c d => c.1 ≤ d.1 := by
  induction t generalizing start with
  | nil => exact .nil
  | cons c t ih =>
    obtain ⟨last, h⟩ := c
    obtain ⟨hc, ht⟩ := List.pairwise_cons.1 hsorted
    simp only [SlotTable.below]
    split
    case isTrue hlast =>
      refine List.pairwise_cons.2 ⟨fun d hd => ?_, ih ht _⟩
      rcases (SlotTable.mem_below hd).2 with hmem | hcut
      · exact Nat.le_of_lt (hc d hmem)
      · simp only [hcut]
        omega
    case isFalse =>
      split
      · exact List.pairwise_singleton _ _
      · exact .nil

/-- What `bind` joins is in address order. -/
theorem SlotTable.pairwise_bind {t : SlotTable} (hsorted : t.Pairwise fun c d => c.1 < d.1) {lo hi : Nat}
    (hle : lo ≤ hi) (h : Handler) : (t.below 0 lo ++ (hi, h) :: t.above hi).Pairwise fun c d => c.1 ≤ d.1 := by
  have hfrom : ∀ d ∈ (hi, h) :: t.above hi, hi ≤ d.1 := by
    intro d hd
    rcases List.mem_cons.1 hd with rfl | hd
    · exact Nat.le_refl hi
    · exact Nat.le_of_lt (SlotTable.lt_of_mem_above hsorted hd)
  have habove : (t.above hi).Pairwise fun c d => c.1 ≤ d.1 :=
    (hsorted.sublist (t.above_sublist hi)).imp Nat.le_of_lt
  refine List.pairwise_append.2 ⟨SlotTable.pairwise_below hsorted 0 lo, List.pairwise_cons.2 ⟨?_, habove⟩, ?_⟩
  · exact fun d hd => hfrom d (List.mem_cons_of_mem _ hd)
  · intro c hc d hd
    have hlt := (SlotTable.mem_below hc).1
    have := hfrom d hd
    omega

/-- `bind` gives its range the handler and leaves every other entry (R56), in a table that reaches the range's end. -/
theorem SlotTable.slot_bind {t : SlotTable} (hsorted : t.Pairwise fun c d => c.1 < d.1) {lo hi : Nat}
    (hreach : ∃ c ∈ t, hi ≤ c.1) (hle : lo ≤ hi) (h : Handler) (a : Nat) :
    (t.bind lo hi h).slot a = if lo ≤ a ∧ a ≤ hi then h else t.slot a := by
  rw [SlotTable.bind, if_pos hle, SlotTable.slot_join (SlotTable.pairwise_bind hsorted hle h)]
  by_cases hbelow : a < lo
  · have hreach' : ∃ c ∈ t, lo ≤ c.1 := hreach.imp fun _ hc => ⟨hc.1, Nat.le_trans hle hc.2⟩
    rw [SlotTable.slot_below_append (Nat.zero_le a) hbelow hreach', if_neg (by omega)]
  · have hskip : ∀ c ∈ t.below 0 lo, c.1 < a := fun c hc => by
      have := (SlotTable.mem_below hc).1
      omega
    rw [SlotTable.slot_append_of_lt hskip, SlotTable.slot]
    by_cases hin : a ≤ hi
    · rw [if_pos hin, if_pos ⟨Nat.not_lt.1 hbelow, hin⟩]
    · rw [if_neg hin, if_neg (fun hc => hin hc.2), SlotTable.slot_above (Nat.not_le.1 hin)]

/-- Settles O33: `rebind_from` is a `bind` of the owner, and a cartridge that owns an address reads its image there. -/
theorem rebindCopiesTheOwner : Obligations.RebindCopiesTheOwner :=
  ⟨fun t _ _ source hsorted hreach hle => SlotTable.slot_bind hsorted hreach hle (t.slot source.toNat),
    fun _ _ hh hc ha => busRead_rom hh hc ha⟩

end Sys2Proof.Machine
end

section
/-! PROOFS. Family 20_memory: triggered mappings and the boot-ROM lockout (R58 to R60). -/

namespace Sys2Proof.Machine

theorem TriggerType.onRead_iff (kind : TriggerType) : kind.onRead = true ↔ kind = .read ∨ kind = .both := by
  cases kind <;> decide

theorem TriggerType.onWrite_iff (kind : TriggerType) : kind.onWrite = true ↔ kind = .write ∨ kind = .both := by
  cases kind <;> decide

/-- A read of a triggered mapping (R59). -/
theorem busRead_triggered {s : State} {a : Word} {kind : TriggerType} {x y z : Word}
    (hh : s.handler a = .triggered kind x y z) : busRead a s = (0xFF, rebindIf kind.onRead x y z s) :=
  busRead_of_handler hh

/-- A write of a triggered mapping (R59). -/
theorem busWrite_triggered {s : State} {a : Word} {kind : TriggerType} {x y z : Word}
    (hh : s.handler a = .triggered kind x y z) (v : Byte) : busWrite a v s = rebindIf kind.onWrite x y z s :=
  busWrite_of_handler hh v

/-- Settles O37: both accesses are the sentinel or nothing, and the rebind where the type fires. -/
theorem triggeredMapping : Obligations.TriggeredMapping := by
  intro s a x y z kind v hh
  simp only [busRead_triggered hh, busWrite_triggered hh, rebindIf, TriggerType.onRead_iff, TriggerType.onWrite_iff,
    and_self]

/-- The slot of 0xFF50 is the lockout in both maps (R60, R62). -/
theorem handler_lockout {s : State} (hs : s.mapped) : s.handler 0xFF50 = lockout :=
  handler_of_mapped hs (lo := 0xFF50) (hi := 0xFF50) (by decide) (by decide) (by decide)

/-- The lockout answers 0xFF and does nothing on a read (R60). -/
theorem busRead_lockout {s : State} (hs : s.mapped) : busRead 0xFF50 s = (0xFF, s) :=
  busRead_triggered (handler_lockout hs)

/-- The lockout fires on every write (R60). -/
theorem busWrite_lockout {s : State} (hs : s.mapped) (v : Byte) :
    busWrite 0xFF50 v s = s.setSlots (s.slots.rebindFrom 0x0000 0x00FF 0x0100) :=
  busWrite_triggered (handler_lockout hs) v

/-- After the lockout cartridge ROM serves 0x0000-0x7FFF (R60, R64). -/
theorem handler_rom {s : State} (hs : s.slots = slotsWithCartridge) {a : Word} (ha : a.toNat ≤ 0x7FFF) :
    s.handler a = .cartridge := by
  rw [State.handler, hs, slotsWithCartridge_slot_rom ha]

/-- Settles O35: the write is the rebind of the lockout, which turns either map into the one with the cartridge. -/
theorem bootRomLockout : Obligations.BootRomLockout := by
  constructor
  · intro s v hs
    have hwrite : busWrite 0xFF50 v s = s.setSlots slotsWithCartridge := by
      rw [busWrite_lockout (.inr hs), hs, rebind_slotsWithBootRom]
    refine ⟨hwrite, busRead_lockout (.inr hs), fun a ha => ?_⟩
    have hh : (s.setSlots slotsWithCartridge).handler a = .cartridge := handler_rom rfl (by omega)
    rw [hwrite]
    exact ⟨hh, fun hc => congrArg Prod.fst (busRead_rom hh hc (by omega))⟩
  · intro s v hs
    refine ⟨?_, busRead_lockout (.inl hs)⟩
    rw [busWrite_lockout (.inl hs), hs, rebind_slotsWithCartridge, ← hs]
    rfl

end Sys2Proof.Machine
end

section
/-! PROOFS. Family 20_memory: bytes of storage (R65 to R68, R71) and the 16-bit store (R51, R152). -/

namespace Sys2Proof.Machine

/-- A write to RAM moves no address to another cell. -/
theorem busWrite_cellOf {s : State} {a : Word} {k : Nat} (h : s.cellOf a = some k) (v : Byte) (b : Word) :
    (busWrite a v s).cellOf b = s.cellOf b := by
  rw [busWrite_of_cell a v s k h, cellOf_setMem]

/-- A byte of RAM is read as its cell. -/
theorem busRead_of_cell {s : State} {a : Word} {k : Nat} (h : s.cellOf a = some k) :
    busRead a s = (s.mem.read k, s) :=
  busRead_of_peek a s _ (peek_of_cell s a k h)

/-- What memory holds after a write to RAM. -/
theorem busWrite_mem_of_cell {s : State} {a : Word} {k : Nat} (h : s.cellOf a = some k) (v : Byte) (j : Nat) :
    (busWrite a v s).mem.read j = if j = k then v else s.mem.read j := by
  rw [busWrite_of_cell a v s k h, State.setMem_mem, Memory.read_write]

/-- The cell of an address whose handler is known. -/
theorem cellOf_of_handler {s : State} {a : Word} {h : Handler} (hh : s.handler a = h) :
    s.cellOf a = storageKey s.params.cart h a := by
  rw [State.cellOf, hh]

/-- Work RAM (R67). -/
theorem cellOf_workRam {s : State} (hs : s.mapped) {a : Word} (hlo : 0xC000 ≤ a.toNat) (hhi : a.toNat < 0xE000) :
    s.cellOf a = some a.toNat := by
  have hh : s.handler a = .workRam :=
    handler_of_mapped hs (lo := 0xC000) (hi := 0xDFFF) (by decide) hlo (Nat.le_of_lt_succ hhi)
  rw [cellOf_of_handler hh]
  exact if_pos ⟨hlo, hhi⟩

/-- The mirror of work RAM (R67). -/
theorem cellOf_mirror {s : State} (hs : s.mapped) {a : Word} (hlo : 0xE000 ≤ a.toNat) (hhi : a.toNat < 0xFE00) :
    s.cellOf a = some (a.toNat - 0x2000) := by
  have hh : s.handler a = .workRam :=
    handler_of_mapped hs (lo := 0xE000) (hi := 0xFDFF) (by decide) hlo (Nat.le_of_lt_succ hhi)
  rw [cellOf_of_handler hh]
  exact (if_neg (by omega)).trans (if_pos ⟨hlo, hhi⟩)

/-- Video RAM (R65). -/
theorem cellOf_videoRam {s : State} (hs : s.mapped) {a : Word} (hlo : 0x8000 ≤ a.toNat) (hhi : a.toNat < 0xA000) :
    s.cellOf a = some a.toNat := by
  have hh : s.handler a = .videoRam :=
    handler_of_mapped hs (lo := 0x8000) (hi := 0x9FFF) (by decide) hlo (Nat.le_of_lt_succ hhi)
  rw [cellOf_of_handler hh]
  exact if_pos ⟨hlo, hhi⟩

/-- Cartridge RAM, where the cartridge has it (R66). -/
theorem cellOf_cartridgeRam {s : State} (hs : s.mapped) (hc : s.params.cart = .romRam) {a : Word}
    (hlo : 0xA000 ≤ a.toNat) (hhi : a.toNat < 0xC000) : s.cellOf a = some a.toNat := by
  have hh : s.handler a = .cartridge :=
    handler_of_mapped hs (lo := 0xA000) (hi := 0xBFFF) (by decide) hlo (Nat.le_of_lt_succ hhi)
  rw [cellOf_of_handler hh]
  exact if_pos ⟨hc, hlo, hhi⟩

/-- Settles O38: a RAM access is an access of its cell, and the map gives the cells of the two ranges and the mirror. -/
theorem ramReadsBack : Obligations.RamReadsBack := by
  refine ⟨fun s a b v k ha hb => ?_, fun s a b v k j ha hb hne => ?_, fun s a hs hlo hhi => ⟨?_, ?_⟩,
    fun s a hs hc hlo hhi => cellOf_cartridgeRam hs hc hlo hhi⟩
  · rw [busRead_of_cell ((busWrite_cellOf ha v b).trans hb), busWrite_mem_of_cell ha, if_pos rfl]
  · rw [busRead_of_cell ((busWrite_cellOf ha v b).trans hb), busWrite_mem_of_cell ha, if_neg hne, busRead_of_cell hb]
  · exact cellOf_workRam hs hlo (by omega)
  · have hmirror : (a + 0x2000).toNat = a.toNat + 0x2000 := by
      bv_omega
    rw [cellOf_mirror hs (by omega) (by omega), hmirror, Nat.add_sub_cancel]

/-- A 16-bit store touches no memory but the cells of its two bytes (R51). -/
theorem onlyStores_memWrite16 (a v : Word) (s : State) : OnlyStores s (memWrite16 a v s)
    (s.cellsWritten a ++ (memWrite a (loByte v) s).cellsWritten (a + 1)) := by
  refine ⟨⟨by simp [memWrite16], by simp [memWrite16], by simp [memWrite16], by simp [memWrite16]⟩, fun k hk => ?_⟩
  obtain ⟨hlow, hhigh⟩ := not_or.1 (mt List.mem_append.2 hk)
  rw [memWrite16, memWrite_mem_other _ _ _ _ hhigh, memWrite_mem_other _ _ _ _ hlow]

theorem memWrite_cellOf {s : State} {a : Word} {k : Nat} (h : s.cellOf a = some k) (v : Byte) (b : Word) :
    (memWrite a v s).cellOf b = s.cellOf b := by
  rw [memWrite, busWrite_cellOf (by rwa [tick_cellOf]), tick_cellOf]

theorem memWrite_mem_of_cell {s : State} {a : Word} {k : Nat} (h : s.cellOf a = some k) (v : Byte) (j : Nat) :
    (memWrite a v s).mem.read j = if j = k then v else s.mem.read j := by
  rw [memWrite, busWrite_mem_of_cell (by rwa [tick_cellOf]), tick_mem]

/-- A 16-bit store to RAM: low byte first, the high byte at the next address, two M-cycles and no setting (R51). -/
theorem memWrite16_of_cells {s : State} {a : Word} {k1 k2 : Nat} (h1 : s.cellOf a = some k1)
    (h2 : s.cellOf (a + 1) = some k2) (v : Word) :
    (memWrite16 a v s).mem.read k1 = loByte v ∧ (memWrite16 a v s).mem.read k2 = hiByte v ∧
    (memWrite16 a v s).clock = s.clock + 8 ∧ (memWrite16 a v s).settings = s.settings := by
  obtain ⟨hne, hmir, hmir'⟩ := add_one_ne a
  have hcells : k1 ≠ k2 := cell_ne s _ _ _ _ hne hmir hmir' h1 h2
  have hhigh : (memWrite a (loByte v) s).cellOf (a + 1) = some k2 := (memWrite_cellOf h1 _ _).trans h2
  refine ⟨?_, ?_, ?_, ?_⟩
  · rw [memWrite16, memWrite_mem_of_cell hhigh, if_neg hcells, memWrite_mem_of_cell h1, if_pos rfl]
  · rw [memWrite16, memWrite_mem_of_cell hhigh, if_pos rfl]
  · rw [memWrite16, memWrite_clock_of_cell _ _ _ _ hhigh, memWrite_clock_of_cell _ _ _ _ h1]
  · rw [memWrite16, memWrite_settings_of_cell _ _ _ _ hhigh, memWrite_settings_of_cell _ _ _ _ h1]

/-- Settles O45: `LD (nn),SP` is the 16-bit store of SP. -/
theorem storeStackPointer : Obligations.StoreStackPointer := fun nn s =>
  ⟨memWrite16 nn s.regs.sp s, memWrite nn (loByte s.regs.sp) s, exec_toInstr (.ldNNSP nn) rfl s, rfl, rfl,
    by rw [memWrite16, memWrite_regs, memWrite_regs], onlyStores_memWrite16 nn s.regs.sp s,
    fun _ _ h1 h2 => memWrite16_of_cells h1 h2 s.regs.sp⟩

end Sys2Proof.Machine
end

section
/-! PROOFS. Family 20_memory: OAM DMA (R377). -/

namespace Sys2Proof.Machine

/-- A write of the DMA register is the copy and its stall (R377). -/
theorem busWrite_dma {s : State} (hs : s.mapped) (v : Byte) : busWrite 0xFF46 v s = oamDma v s :=
  have hh : s.handler 0xFF46 = .videoRegisters :=
    handler_of_mapped hs (lo := 0xFF40) (hi := 0xFF4B) (by decide) (by decide) (by decide)
  busWrite_of_handler hh v

/-- The machine with the page of an OAM DMA written, before the copy (R377). -/
def State.withDma (s : State) (v : Byte) : State := s.setVideo { s.video with dma := v }

theorem oamDma_eq (v : Byte) (s : State) :
    oamDma v s = tickN s.params.dmaStallMCycles (dmaCopy v oamSize 0 (s.withDma v)) := rfl

theorem oamDma_mem (v : Byte) (s : State) : (oamDma v s).mem = (dmaCopy v oamSize 0 (s.withDma v)).mem := by
  rw [oamDma_eq, tickN_mem]

theorem tickN_dma (n : Nat) (s : State) : (tickN n s).video.dma = s.video.dma :=
  congrArg Settings.dma (onlyReads_tickN n s).settings

/-- Neither the copy nor the stall moves the DMA register. -/
theorem oamDma_dma (v : Byte) (s : State) : (oamDma v s).video.dma = v := by
  rw [oamDma_eq, tickN_dma, dmaCopy_video]
  rfl

/-- The address of byte `i` of page `v` (R377). -/
def dmaSource (v : Byte) (i : Nat) : Word := BitVec.ofNat 16 (256 * v.toNat + i)

theorem dmaSource_toNat (v : Byte) {i : Nat} (hi : i < 160) : (dmaSource v i).toNat = 256 * v.toNat + i := by
  rw [dmaSource, BitVec.toNat_ofNat]
  omega

theorem joinBytes_add_eq_dmaSource (v : Byte) (i : Nat) : joinBytes v 0x00 + BitVec.ofNat 16 i = dmaSource v i := by
  have hpage : (joinBytes v 0x00).toNat = 256 * v.toNat := by
    refine (BitVec.toNat_append v 0x00#8).trans ?_
    simp [Nat.shiftLeft_eq, Nat.mul_comm]
  rw [dmaSource, BitVec.ofNat_add, ← hpage, BitVec.ofNat_toNat, BitVec.setWidth_eq]

theorem dmaCopy_append (v : Byte) (n m i : Nat) (s : State) :
    dmaCopy v (n + m) i s = dmaCopy v m (i + n) (dmaCopy v n i s) := by
  induction n generalizing i s with
  | zero => rw [Nat.zero_add]; rfl
  | succ n ih => rw [Nat.succ_add, dmaCopy, ih, dmaCopy, Nat.succ_add_eq_add_succ]

/-- Byte `i` of OAM after the copy is what the bus reads once `i` bytes are copied (R377). -/
theorem dmaCopy_mem_oam (v : Byte) (s : State) {n i : Nat} (hi : i < n) :
    (dmaCopy v n 0 s).mem.read (oamCell i) = (busRead (dmaSource v i) (dmaCopy v i 0 s)).1 := by
  obtain ⟨m, rfl⟩ : ∃ m, n = i + (m + 1) := ⟨n - (i + 1), by omega⟩
  have hlater : ∀ j, 0 + i + 1 ≤ j → j < 0 + i + 1 + m → oamCell i ≠ oamCell j := by
    intro j hj _
    simp only [oamCell]
    omega
  rw [dmaCopy_append, dmaCopy, dmaCopy_mem_other v m _ _ _ hlater, dmaByte_mem, Nat.zero_add,
    Memory.read_write_same, joinBytes_add_eq_dmaSource]

/-- The copy stays clear of memory outside OAM. -/
theorem dmaCopy_mem_outside (v : Byte) {n : Nat} (hn : n ≤ 160) (s : State) {k : Nat}
    (hk : k < 0xFE00 ∨ 0xFEA0 ≤ k) : (dmaCopy v n 0 s).mem.read k = s.mem.read k := by
  apply dmaCopy_mem_other
  intro j _ hj
  simp only [oamCell]
  omega

/-- The reads of the copy rebind nothing (R74). -/
theorem dmaCopy_slots (v : Byte) (n i : Nat) {s : State} (hs : s.mapped) : (dmaCopy v n i s).slots = s.slots := by
  induction n generalizing i s with
  | zero => rfl
  | succ n ih =>
    have hbyte : (dmaByte v i s).slots = s.slots := busRead_slots_of_map _ s hs
    have hmapped : (dmaByte v i s).mapped := by rwa [State.mapped, hbyte]
    rw [dmaCopy, ih _ hmapped, hbyte]

/-- The address `a` is served by the byte of storage at `k`: a RAM cell, or a byte of cartridge ROM (R38, R66). -/
def State.Stores (s : State) (a : Word) (k : Nat) : Prop :=
  s.cellOf a = some k ∨ (s.handler a = .cartridge ∧ s.params.cart ≠ .agent ∧ a.toNat < 0x8000 ∧ k = a.toNat)

theorem busRead_of_stores {s : State} {a : Word} {k : Nat} (h : s.Stores a k) : busRead a s = (s.mem.read k, s) := by
  rcases h with hcell | ⟨hh, hc, ha, rfl⟩
  · exact busRead_of_cell hcell
  · exact busRead_rom hh hc ha

/-- Where a byte is stored depends on the interconnect and the parameters alone. -/
theorem State.Stores.congr {s t : State} {a : Word} {k : Nat} (h : s.Stores a k) (hslots : t.slots = s.slots)
    (hparams : t.params = s.params) : t.Stores a k := by
  simpa only [State.Stores, State.cellOf, State.handler, hslots, hparams] using h

/-- A byte of the page that storage outside OAM serves arrives in OAM as it was stored (R377). -/
theorem oamDma_copies {s : State} (hs : s.mapped) (v : Byte) {i k : Nat} (hi : i < 160) (hk : k < 0xFE00)
    (h : s.Stores (dmaSource v i) k) : (oamDma v s).mem.read (oamCell i) = s.mem.read k := by
  have hmapped : (s.withDma v).mapped := hs
  have hstores : (dmaCopy v i 0 (s.withDma v)).Stores (dmaSource v i) k :=
    h.congr (dmaCopy_slots v i 0 hmapped) (dmaCopy_params v i 0 _)
  calc (oamDma v s).mem.read (oamCell i)
    _ = (busRead (dmaSource v i) (dmaCopy v i 0 (s.withDma v))).1 := by
      rw [oamDma_mem, dmaCopy_mem_oam v _ (n := oamSize) hi]
    _ = (dmaCopy v i 0 (s.withDma v)).mem.read k := by rw [busRead_of_stores hstores]
    _ = s.mem.read k := dmaCopy_mem_outside v (Nat.le_of_lt hi) _ (.inl hk)

/-- The pages whose bytes plain storage keeps at their own addresses (R65 to R67). -/
theorem stores_dmaSource {s : State} (hs : s.mapped) {v : Byte} {i : Nat} (hi : i < 160)
    (h : (0xC0 ≤ v.toNat ∧ v.toNat < 0xE0) ∨ (0x80 ≤ v.toNat ∧ v.toNat < 0xA0) ∨
      (0xA0 ≤ v.toNat ∧ v.toNat < 0xC0 ∧ s.params.cart = .romRam) ∨
      (v.toNat < 0x80 ∧ s.slots = slotsWithCartridge ∧ s.params.cart ≠ .agent)) :
    s.Stores (dmaSource v i) (256 * v.toNat + i) := by
  have ha := dmaSource_toNat v hi
  rw [← ha]
  rcases h with ⟨hlo, hhi⟩ | ⟨hlo, hhi⟩ | ⟨hlo, hhi, hc⟩ | ⟨hhi, hslots, hc⟩
  · exact .inl (cellOf_workRam hs (by omega) (by omega))
  · exact .inl (cellOf_videoRam hs (by omega) (by omega))
  · exact .inl (cellOf_cartridgeRam hs hc (by omega) (by omega))
  · exact .inr ⟨handler_rom hslots (by omega), hc, by omega, rfl⟩

/-- The pages of the mirror, whose bytes work RAM keeps 0x2000 lower (R67). -/
theorem stores_dmaSource_mirror {s : State} (hs : s.mapped) {v : Byte} {i : Nat} (hi : i < 160)
    (hlo : 0xE0 ≤ v.toNat) (hhi : v.toNat < 0xFE) : s.Stores (dmaSource v i) (256 * v.toNat + i - 0x2000) := by
  have ha := dmaSource_toNat v hi
  rw [← ha]
  exact .inl (cellOf_mirror hs (by omega) (by omega))

/-- Settles O31: each byte of OAM is one bus read of the copy, and storage outside OAM reads as before the copy. -/
theorem oamDmaCopiesAPage : Obligations.OamDmaCopiesAPage := by
  intro s v hs
  rw [busWrite_dma hs]
  refine ⟨oamDma_dma v s, oamDma_regs v s, oamDma_clock v s, fun k hk => ?_, fun i hi => ?_, fun hpage i hi => ?_,
    fun hlo hhi i hi => ?_⟩
  · rw [oamDma_mem]
    exact dmaCopy_mem_outside v (Nat.le_refl _) (s.withDma v) hk
  · rw [oamDma_mem]
    exact dmaCopy_mem_oam v (s.withDma v) hi
  · exact oamDma_copies hs v hi (by omega) (stores_dmaSource hs hi hpage)
  · exact oamDma_copies hs v hi (by omega) (stores_dmaSource_mirror hs hi hlo hhi)

end Sys2Proof.Machine
end

section
/-! PROOFS. Family 20_memory: what every operation keeps, every step keeps; the interconnect after the lockout (R60). -/

namespace Sys2Proof.Machine

/-- Each operation that a step is made of keeps `P`. -/
structure KeptByOperations (P : State → Prop) : Prop where
  setRegs : ∀ {s : State} (r : Regs), P s → P (s.setRegs r)
  setIme : ∀ {s : State} (x : Bool), P s → P (s.setIme x)
  setEiPending : ∀ {s : State} (x : Bool), P s → P (s.setEiPending x)
  setRun : ∀ {s : State} (x : RunState), P s → P (s.setRun x)
  acknowledge : ∀ {s : State} (k : Source), P s → P (acknowledge k s)
  poll : ∀ {s : State}, P s → P (poll s)
  tick : ∀ {s : State}, P s → P (tick s)
  busRead : ∀ {s : State} (a : Word), P s → P (busRead a s).2
  busWrite : ∀ {s : State} (a : Word) (v : Byte), P s → P (busWrite a v s)

theorem prop_ite {P : State → Prop} {c : Prop} [Decidable c] {x y : State} (hx : P x) (hy : P y) :
    P (if c then x else y) := by
  split
  · exact hx
  · exact hy

namespace KeptByOperations

variable {P : State → Prop} (K : KeptByOperations P) {s t : State}
include K

theorem memRead (a : Word) (h : P s) : P (memRead a s).2 := K.busRead a (K.tick h)

theorem memWrite (a : Word) (v : Byte) (h : P s) : P (memWrite a v s) := K.busWrite a v (K.tick h)

theorem fetch8 (h : P s) : P (fetch8 s).2 := K.setRegs _ (K.memRead _ h)

theorem push16 (v : Word) (h : P s) : P (push16 v s) :=
  K.memWrite _ _ (K.setRegs _ (K.memWrite _ _ (K.setRegs _ h)))

theorem pop16 (h : P s) : P (pop16 s).2 := K.setRegs _ (K.memRead _ (K.setRegs _ (K.memRead _ h)))

theorem modifyHL (g : Byte → Flags → Alu8) (h : P s) : P (modifyHL g s) :=
  K.setRegs _ (K.memWrite _ _ (K.memRead _ h))

theorem jumpTo (target : Word) (h : P s) : P (jumpTo target s) := K.setRegs _ (K.tick h)

theorem callTo (target : Word) (h : P s) : P (callTo target s) := K.setRegs _ (K.push16 _ (K.tick h))

theorem returnPc (h : P s) : P (returnPc s) := K.setRegs _ (K.tick (K.pop16 h))

theorem after (p : Place) (h : P s) : P (p.after s) := by
  cases p with
  | hlInc | hlDec => exact K.setRegs _ h
  | pair | abs | pageC | page => exact h

theorem loadFrom (d : Reg8) (p : Place) (h : P s) :
    P (p.after ((Machine.memRead (p.address s) s).2.setReg8 d (Machine.memRead (p.address s) s).1)) :=
  K.after p (K.setRegs _ (K.memRead _ h))

theorem storeTo (p : Place) (v : Byte) (h : P s) : P (p.after (Machine.memWrite (p.address s) v s)) :=
  K.after p (K.memWrite _ v h)

theorem source (o : Source8) (h : P s) : P (o.read s).2 := by
  cases o with
  | atHL => exact K.memRead _ h
  | reg | imm => exact h

/-- Every form is made of these operations. -/
theorem execForm (f : Form) (h : P s) (he : execForm f s = .next t) : P t := by
  cases f
  case ldRHL | ldABC | ldADE | ldANN | ldAC | ldAN | ldAHLI | ldAHLD => cases he; exact K.loadFrom _ _ h
  case ldHLR | ldHLN | ldBCA | ldDEA | ldNNA | ldCA | ldNA | ldHLIA | ldHLDA => cases he; exact K.storeTo _ _ h
  case incHL | decHL | shiftHL | resHL | setHL => cases he; exact K.modifyHL _ h
  case ldNNSP => cases he; exact K.memWrite _ _ (K.memWrite _ _ h)
  case push => cases he; exact K.push16 _ (K.tick h)
  case pop | popAF => cases he; exact K.setRegs _ (K.pop16 h)
  case ldSPHL | incPair | decPair => cases he; exact K.tick (K.setRegs _ h)
  case ldhlSPE | addHLPair => cases he; exact K.tick (K.setRegs _ (K.setRegs _ h))
  case addSPE => cases he; exact K.setRegs _ (K.tick (K.tick (K.setRegs _ h)))
  case aluR | aluHL | aluN => cases he; exact K.setRegs _ (K.setRegs _ (K.source _ h))
  case bitHL => cases he; exact K.setRegs _ (K.memRead _ h)
  case jpNN | jrE => cases he; exact K.jumpTo _ h
  case jpCC | jrCC => cases he; exact prop_ite (K.jumpTo _ h) h
  case callNN | rst => cases he; exact K.callTo _ h
  case callCC => cases he; exact prop_ite (K.callTo _ h) h
  case ret => cases he; exact K.returnPc h
  case retCC => cases he; exact prop_ite (K.returnPc (K.tick h)) (K.tick h)
  case reti => cases he; exact K.setEiPending _ (K.setIme _ (K.returnPc h))
  case di => cases he; exact K.setEiPending _ (K.setIme _ h)
  case ei => cases he; exact K.setEiPending _ h
  case halt | undefined => cases he; exact K.setRun _ h
  case stop => cases he; exact K.setRun _ (K.setRegs _ h)
  case nop => cases he; exact h
  case ldRR | ldRN | ldPairNN | jpHL | bitR | resR | setR | ccf | scf => cases he; exact K.setRegs _ h
  case incR | decR | rlca | rla | rrca | rra | shiftR | daa | cpl => cases he; exact K.setRegs _ (K.setRegs _ h)

theorem fetchInstr (h : P s) : P (fetchInstr s).2 := by
  simp only [Machine.fetchInstr]
  split
  · exact K.fetch8 h
  · exact K.fetch8 h
  · exact K.fetch8 (K.fetch8 h)
  · exact K.fetch8 (K.fetch8 (K.fetch8 h))

theorem finishPass (arm : Bool) (h : P s) : P (finishPass arm s) := by
  rcases finish_eq arm s with ⟨-, heq⟩ | ⟨-, heq⟩ <;> rw [heq]
  · exact h
  · exact prop_ite (K.setEiPending _ (K.setIme _ h)) h

theorem takeInterrupt (k : Source) (h : P s) : P (takeInterrupt k s) :=
  K.setRegs _ (K.tick (K.acknowledge k (K.setEiPending _ (K.setIme _ (K.push16 _ (K.tick (K.tick h)))))))

/-- What each operation keeps, each of the four kinds of pass keeps. -/
theorem step (h : P s) (hstep : step s = .next t) : P t := by
  have hwoken : P s.woken := K.setRun _ h
  rcases step_kinds s t hstep with hx | ⟨-, rfl⟩ | ⟨-, -, rfl⟩ | ⟨-, -, -, rfl⟩
  · obtain ⟨u, hu, hnext⟩ := step_executes s hx
    cases hnext.symm.trans hstep
    exact K.finishPass _ (K.execForm _ (K.fetchInstr hwoken) hu)
  · exact prop_ite (K.setRun _ (K.poll h)) (K.poll h)
  · exact K.tick h
  · exact K.takeInterrupt _ hwoken

end KeptByOperations

@[simp] theorem writeLcdc_slots (v : Byte) (s : State) : (writeLcdc v s).slots = s.slots := by
  simp [writeLcdc, apply_ite State.slots]

@[simp] theorem writeVideo_slots (a : Word) (v : Byte) (s : State) : (writeVideo a v s).slots = s.slots := by
  simp [writeVideo, apply_ite State.slots]

/-- A write of a device that is no triggered mapping rebinds nothing (R59). -/
theorem deviceWrite_slots {s : State} (hs : s.mapped) {h : Handler} (hh : ∀ kind x y z, h ≠ .triggered kind x y z)
    (a : Word) (v : Byte) : (deviceWrite h a v s).slots = s.slots := by
  cases h <;> simp only [deviceWrite]
  case cartridge => exact cartridgeWrite_slots a v s
  case videoRegisters =>
    simp only [writeVideoRegister, apply_ite State.slots, writeVideo_slots, oamDma_eq, tickN_slots]
    rw [dmaCopy_slots v oamSize 0 (s := s.withDma v) hs]
    exact ite_self _
  case triggered kind x y z => exact absurd rfl (hh kind x y z)
  case input | serial | timer | interruptController =>
    simp [writeP1, writeSerial, writeTimer, writeInterrupt, writeIF, writeIE, apply_ite State.slots]

/-- After the lockout no write rebinds: the one triggered mapping repeats its rebind (R60). -/
theorem busWrite_slots_of_cartridge {s : State} (hs : s.slots = slotsWithCartridge) (a : Word) (v : Byte) :
    (busWrite a v s).slots = slotsWithCartridge := by
  by_cases htrig : ∃ kind x y z, s.handler a = .triggered kind x y z
  · obtain ⟨kind, x, y, z, hh⟩ := htrig
    have hlock := slot_triggered_of_map _ (.inl hs) _ _ _ _ _ hh
    simp only [lockout, Handler.triggered.injEq] at hlock
    obtain ⟨rfl, rfl, rfl, rfl⟩ := hlock
    rw [busWrite_triggered hh]
    exact (congrArg (SlotTable.rebindFrom · 0x0000 0x00FF 0x0100) hs).trans rebind_slotsWithCartridge
  · simp only [busWrite, handlerWrite]
    split
    · exact hs
    · rw [deviceWrite_slots (.inl hs) fun kind x y z hh => htrig ⟨kind, x, y, z, hh⟩]
      exact hs

theorem slotsWithCartridge_kept : KeptByOperations fun s => s.slots = slotsWithCartridge where
  setRegs _ h := h
  setIme _ h := h
  setEiPending _ h := h
  setRun _ h := h
  acknowledge _ h := h
  poll h := (poll_slots _).trans h
  tick h := (tick_slots _).trans h
  busRead a h := (busRead_slots_of_map a _ (.inl h)).trans h
  busWrite a v h := busWrite_slots_of_cartridge h a v

/-- Settles O36: no operation of a step changes the map that the lockout leaves. -/
theorem lockoutIsForEver : Obligations.LockoutIsForEver := fun _ _ hs hstep => slotsWithCartridge_kept.step hs hstep

end Sys2Proof.Machine
end

section
/-! PROOFS. Family 30_encoding: the bytes of a decoded form (R90, R98 to R102). -/

namespace Sys2Proof.Machine

theorem Code3.val_ofField : ∀ n < 8, (Code3.ofField n).val = n := by
  decide

/-- An opcode byte is made of its fields x, y, z (R99). -/
theorem opByte_fields (op : Byte) : opByte (fieldX op) (fieldY op).val (fieldZ op).val = op := by
  have hy : (fieldY op).val = op.toNat / 8 % 8 := Code3.val_ofField _ (Nat.mod_lt _ (by decide))
  have hz : (fieldZ op).val = op.toNat % 8 := Code3.val_ofField _ (Nat.mod_lt _ (by decide))
  have hsum : 64 * fieldX op + 8 * (fieldY op).val + (fieldZ op).val = op.toNat := by
    rw [hy, hz, fieldX]
    omega
  rw [opByte, hsum, BitVec.ofNat_toNat, BitVec.setWidth_eq]

theorem fieldX_cases (op : Byte) : fieldX op = 0 ∨ fieldX op = 1 ∨ fieldX op = 2 ∨ fieldX op = 3 := by
  unfold fieldX
  omega

/-- The bytes that are fetched for `f` are the first of `bytes`; the padding byte of STOP is left open (R107). -/
def FetchedFrom (f : Form) (bytes : List Byte) : Prop :=
  f.encode.take f.fetchedLength = bytes.take f.fetchedLength

theorem formX0_fetchedFrom (y z : Code3) (nn : Word) :
    FetchedFrom (formX0 y z (loByte nn) nn) (opByte 0 y.val z.val :: immediate16 nn) := by
  cases z <;> cases y <;> rfl

theorem formX1_fetchedFrom (y z : Code3) (bytes : List Byte) :
    FetchedFrom (formX1 y z) (opByte 1 y.val z.val :: bytes) := by
  cases z <;> cases y <;> rfl

theorem formX2_fetchedFrom (y z : Code3) (bytes : List Byte) :
    FetchedFrom (formX2 y z) (opByte 2 y.val z.val :: bytes) := by
  cases z <;> cases y <;> rfl

theorem formX3_fetchedFrom (y z : Code3) (nn : Word) :
    FetchedFrom (formX3 (opByte 3 y.val z.val) y z (loByte nn) nn) (opByte 3 y.val z.val :: immediate16 nn) := by
  cases z <;> cases y <;> rfl

/-- The base table, block by block (R98, R99). -/
theorem baseForm_fetchedFrom (op : Byte) (nn : Word) :
    FetchedFrom (baseForm op (loByte nn) nn) (op :: immediate16 nn) := by
  have hop := opByte_fields op
  unfold baseForm
  rcases fieldX_cases op with hx | hx | hx | hx <;> rw [hx] at hop ⊢
  · simpa only [hop] using formX0_fetchedFrom (fieldY op) (fieldZ op) nn
  · simpa only [hop] using formX1_fetchedFrom (fieldY op) (fieldZ op) (immediate16 nn)
  · simpa only [hop] using formX2_fetchedFrom (fieldY op) (fieldZ op) (immediate16 nn)
  · simpa only [hop] using formX3_fetchedFrom (fieldY op) (fieldZ op) nn

/-- The extended table, block by block (R101). -/
theorem cbForm_encode (op2 : Byte) : (cbForm op2).encode = [escapeOpcode, op2] := by
  have hop := opByte_fields op2
  unfold cbForm
  rcases fieldX_cases op2 with hx | hx | hx | hx <;> rw [hx] at hop ⊢ <;> rw [← hop]
  all_goals cases fieldZ op2 <;> cases fieldY op2 <;> rfl

/-- The form that three bytes give is fetched from them (R104). -/
theorem formOfBytes_fetchedFrom (b0 b1 b2 : Byte) : FetchedFrom (formOfBytes b0 b1 b2) [b0, b1, b2] := by
  unfold formOfBytes
  split
  case isTrue h =>
    rw [FetchedFrom, cbForm_encode, (cbForm_spec b1).2, h]
    rfl
  case isFalse => simpa only [immediate16, lo_join, hi_join] using baseForm_fetchedFrom b0 (joinBytes b2 b1)

/-- The encoding of the form that three bytes give begins with the first of them. -/
theorem head_encode_formOfBytes (b0 b1 b2 : Byte) : (formOfBytes b0 b1 b2).encode.head? = some b0 := by
  have hbytes := formOfBytes_fetchedFrom b0 b1 b2
  unfold FetchedFrom at hbytes
  have hhead := congrArg List.head? hbytes
  have hpos : (formOfBytes b0 b1 b2).fetchedLength ≠ 0 := by
    rcases Form.fetchedLength_range (formOfBytes b0 b1 b2) with h | h | h <;> omega
  simpa [List.head?_take, hpos] using hhead

theorem formOfBytes_eq_stop_iff (b0 b1 b2 : Byte) : formOfBytes b0 b1 b2 = .stop ↔ b0 = 0x10 := by
  constructor
  · intro h
    have hhead := head_encode_formOfBytes b0 b1 b2
    rw [h] at hhead
    exact (Option.some.inj hhead).symm
  · rintro rfl
    rfl

/-- The undefined opcodes are the eleven of R102, each with its own byte. -/
theorem formOfBytes_eq_undefined_iff (b0 b1 b2 op : Byte) :
    formOfBytes b0 b1 b2 = .undefined op ↔ op = b0 ∧ b0 ∈ undefinedOpcodes := by
  constructor
  · intro h
    have hhead := head_encode_formOfBytes b0 b1 b2
    have hwf := formOfBytes_wellFormed b0 b1 b2
    rw [h] at hhead hwf
    have hop : op = b0 := Option.some.inj hhead
    exact ⟨hop, hop ▸ List.contains_iff_mem.1 hwf⟩
  · rintro ⟨rfl, h⟩
    revert op
    simp only [undefinedOpcodes, List.forall_mem_cons]
    exact ⟨rfl, rfl, rfl, rfl, rfl, rfl, rfl, rfl, rfl, rfl, rfl, fun _ h => absurd h List.not_mem_nil⟩

theorem Form.encode_length (f : Form) : f.encode.length = f.length := by
  cases f <;> rfl

/-- Only STOP has a byte that is not fetched (R107). -/
theorem Form.length_of_ne_stop {f : Form} (h : f ≠ .stop) : f.length = f.fetchedLength := by
  unfold Form.length
  split
  · exact absurd rfl h
  · rfl

theorem Form.length_range (f : Form) : f.length = 1 ∨ f.length = 2 ∨ f.length = 3 := by
  by_cases h : f = .stop
  · rw [h]
    decide
  · rw [Form.length_of_ne_stop h]
    exact Form.fetchedLength_range f

/-- The first byte alone fixes the length (R90). -/
theorem formOfBytes_length (b0 b1 b2 : Byte) : (formOfBytes b0 b1 b2).length = (formOfBytes b0 0 0).length := by
  by_cases h : b0 = 0x10
  · rw [h]
    rfl
  · have hne (c1 c2 : Byte) : formOfBytes b0 c1 c2 ≠ .stop := mt (formOfBytes_eq_stop_iff b0 c1 c2).1 h
    rw [Form.length_of_ne_stop (hne b1 b2), Form.length_of_ne_stop (hne 0 0), formOfBytes_fetchedLength, fetchCount]

end Sys2Proof.Machine
end

section
/-! PROOFS. Family 30_encoding: lists of bytes, decoding and encoding (R90, R102, R104, R107). -/

namespace Sys2Proof.Machine

/-- The form that the decoder reads from the bytes of one instruction; a byte that is not there is not read (R104). -/
def formOfList (own : List Byte) : Form := formOfBytes (own.getD 0 0) (own.getD 1 0) (own.getD 2 0)

/-- `own` is as long as the instruction that it holds. -/
def IsOneInstruction (own : List Byte) : Prop := own.length = (formOfList own).length

theorem decode_append {own : List Byte} (h : IsOneInstruction own) (rest : List Byte) :
    decode (own ++ rest) = .ok ((formOfList own).toInstr, rest) := by
  have hfirst : (formOfBytes (own.getD 0 0) 0 0).length = own.length :=
    (formOfBytes_length _ _ _).symm.trans h.symm
  have hrange : own.length = 1 ∨ own.length = 2 ∨ own.length = 3 := h ▸ Form.length_range _
  match own, hrange with
  | [b0], _ | [b0, b1], _ | [b0, b1, b2], _ =>
    simp only [List.getD_cons_zero, List.length_cons, List.length_nil] at hfirst
    simp only [List.cons_append, List.nil_append, decode, hfirst]
    rfl

/-- What the decoder answers: the instruction of its own bytes, and the bytes that follow them. -/
theorem decode_eq_ok_iff (bytes rest : List Byte) (i : Instr) :
    decode bytes = .ok (i, rest) ↔
    ∃ own, bytes = own ++ rest ∧ IsOneInstruction own ∧ i = (formOfList own).toInstr := by
  constructor
  · intro h
    match bytes with
    | b0 :: tail =>
      simp only [decode] at h
      split at h
      case h_1 hlen =>
        cases h
        exact ⟨[b0], rfl, hlen.symm, rfl⟩
      case h_2 b1 _ hlen =>
        cases h
        exact ⟨[b0, b1], rfl, ((formOfBytes_length _ _ _).trans hlen).symm, rfl⟩
      case h_3 b1 b2 _ hlen =>
        cases h
        exact ⟨[b0, b1, b2], rfl, ((formOfBytes_length _ _ _).trans hlen).symm, rfl⟩
      case h_4 => cases h
  · rintro ⟨own, rfl, hown, rfl⟩
    exact decode_append hown rest

theorem form_toInstr_formOfList (own : List Byte) : (formOfList own).toInstr.form = formOfList own :=
  form_toInstr _ (formOfBytes_wellFormed _ _ _)

/-- Decoding after encoding, form by form (R104). -/
theorem formOfList_encode {f : Form} (h : f.wellFormed = true) : formOfList f.encode = f := by
  have hrow {b0 b1 b2 : Byte} (hd : decodeBytes b0 b1 b2 = f.toInstr) : formOfBytes b0 b1 b2 = f := by
    rw [← form_toInstr _ (formOfBytes_wellFormed b0 b1 b2), ← form_toInstr f h]
    exact congrArg Instr.form hd
  by_cases hstop : f = .stop
  · rw [hstop]
    rfl
  have hlen : f.encode.length = f.fetchedLength := (Form.encode_length f).trans (Form.length_of_ne_stop hstop)
  have hend {j : Nat} (hj : f.fetchedLength ≤ j) : f.encode[j]? = none := List.getElem?_eq_none (hlen ▸ hj)
  simp only [formOfList, List.getD_eq_getElem?_getD]
  rcases fetchSpec f h with ⟨b0, e0, hl, -, hd⟩ | ⟨b0, b1, e0, e1, hl, -, hd⟩ | ⟨b0, b1, b2, e0, e1, e2, hl, -, hd⟩
  · rw [e0, hend (j := 1) (by omega), hend (j := 2) (by omega)]
    exact hrow hd
  · rw [e0, e1, hend (j := 2) (by omega)]
    exact hrow hd
  · rw [e0, e1, e2]
    exact hrow hd

theorem take_getD_eq_self {own : List Byte} (h : own.length = 1 ∨ own.length = 2 ∨ own.length = 3) :
    [own.getD 0 0, own.getD 1 0, own.getD 2 0].take own.length = own := by
  match own, h with
  | [_], _ | [_, _], _ | [_, _, _], _ => rfl

/-- Encoding after decoding, but for the padding byte of STOP (R107). -/
theorem encode_formOfList {own : List Byte} (hown : IsOneInstruction own) (hstop : formOfList own ≠ .stop) :
    (formOfList own).encode = own := by
  have hlen : (formOfList own).fetchedLength = own.length := (Form.length_of_ne_stop hstop).symm.trans hown.symm
  have hbytes := formOfBytes_fetchedFrom (own.getD 0 0) (own.getD 1 0) (own.getD 2 0)
  have hall : (formOfList own).encode.length = own.length := (Form.encode_length _).trans hown.symm
  calc (formOfList own).encode
    _ = (formOfList own).encode.take own.length := (List.take_of_length_le (Nat.le_of_eq hall)).symm
    _ = [own.getD 0 0, own.getD 1 0, own.getD 2 0].take own.length := hlen ▸ hbytes
    _ = own := take_getD_eq_self (hown ▸ Form.length_range _)

/-- Settles O2: the bytes of a form are one instruction, which reads as that form. -/
theorem decodeOfEncode : Obligations.DecodeOfEncode := by
  intro i rest
  obtain ⟨hwf, hrow⟩ := Laws.RoundTrip.all i
  have hform : formOfList (encode i) = i.form := formOfList_encode hwf
  refine (decode_eq_ok_iff _ _ _).2 ⟨encode i, rfl, ?_, ?_⟩
  · rw [IsOneInstruction, hform]
    exact Form.encode_length i.form
  · rw [hform, hrow]

/-- Settles O3: the bytes of the decoded instruction are its encoding, and two bytes for STOP. -/
theorem encodeOfDecode : Obligations.EncodeOfDecode := by
  intro bytes rest i h
  obtain ⟨own, rfl, hown, rfl⟩ := (decode_eq_ok_iff _ _ _).1 h
  constructor
  · intro hi
    have hstop : formOfList own ≠ .stop := fun hs => hi (congrArg Form.toInstr hs)
    rw [encode, form_toInstr_formOfList, encode_formOfList hown hstop]
  · intro hi
    have hstop : formOfList own = .stop := by rw [← form_toInstr_formOfList, hi]; rfl
    have hlen : own.length = 2 := by rw [hown, hstop]; rfl
    have hfirst := (formOfBytes_eq_stop_iff _ _ _).1 hstop
    match own, hlen with
    | [b0, pad], _ => exact ⟨pad, congrArg (· :: pad :: rest) hfirst⟩

/-- The bytes that the first of three calls for (R90). -/
theorem isOneInstruction_take (b0 b1 b2 : Byte) :
    IsOneInstruction ([b0, b1, b2].take (formOfBytes b0 0 0).length) ∧
    ∃ c1 c2, formOfList ([b0, b1, b2].take (formOfBytes b0 0 0).length) = formOfBytes b0 c1 c2 := by
  unfold IsOneInstruction
  rcases Form.length_range (formOfBytes b0 0 0) with h | h | h
  all_goals
    rw [h]
    exact ⟨((formOfBytes_length b0 _ _).trans h).symm, _, _, rfl⟩

/-- Settles O4: the decoder takes as many of the bytes as the first calls for. -/
theorem firstByteDecides : Obligations.FirstByteDecides := by
  intro b0 b1 b2 rest
  obtain ⟨hown, c1, c2, hform⟩ := isOneInstruction_take b0 b1 b2
  have hbytes : b0 :: b1 :: b2 :: rest = [b0, b1, b2].take (formOfBytes b0 0 0).length ++
      (b0 :: b1 :: b2 :: rest).drop (formOfBytes b0 0 0).length := by
    rcases Form.length_range (formOfBytes b0 0 0) with h | h | h <;> rw [h] <;> rfl
  refine ⟨_, (decode_eq_ok_iff _ _ _).2 ⟨_, hbytes, hown, rfl⟩, ?_, ?_⟩
  all_goals simp only [(form_toInstr_formOfList _).trans hform, formOfBytes_eq_undefined_iff]
  · exact ⟨fun ⟨_, _, h⟩ => h, fun h => ⟨b0, rfl, h⟩⟩
  · exact fun _ h => h.1

/-- Settles O1, by evaluation of the decoder. -/
theorem sampleWordsDecode : Obligations.SampleWordsDecode :=
  ⟨rfl, rfl, rfl, rfl, rfl, rfl, rfl, rfl, rfl, rfl, rfl, rfl, rfl, rfl, rfl, rfl, rfl, rfl⟩

end Sys2Proof.Machine
end

section
/-! PROOFS. Family 30_encoding: the undefined opcodes and the fault (R102, R269, R301, R405). -/

namespace Sys2Proof.Machine

/-- No instruction faults or refuses, so its pass answers a next state. -/
theorem instructionPass_next (s : State) : ∃ t, instructionPass s = .next t := by
  obtain ⟨u, hu⟩ := execForm_next (fetchInstr s).1.form (fetchInstr s).2
  refine ⟨finishPass s.eiPending u, ?_⟩
  rw [instructionPass, exec_eq_execForm, hu, finishResult]

theorem runningPass_next (s : State) : ∃ t, runningPass s = .next t := by
  unfold runningPass
  split
  · exact ⟨_, rfl⟩
  · exact instructionPass_next s

theorem haltedPass_next (s : State) : ∃ t, haltedPass s = .next t := by
  unfold haltedPass
  split
  · exact ⟨_, rfl⟩
  · exact runningPass_next _

/-- A machine that is not faulted takes a step (R301, R405). -/
theorem step_next {s : State} (h : s.isFaulted = false) : ∃ t, step s = .next t := by
  unfold step pass
  split
  case h_1 hr => simp [State.isFaulted, hr] at h
  · exact ⟨_, rfl⟩
  · exact haltedPass_next s
  · exact runningPass_next s

/-- Settles O9: the row's meaning is the exception, and a pass of a faulted machine is the model's fault. -/
theorem undefinedOpcodeFaults : Obligations.UndefinedOpcodeFaults := by
  refine ⟨fun op s hop => ?_, fun s op pc extended hr => ?_, fun s h => step_next h⟩
  · exact exec_toInstr (.undefined op) (List.contains_iff_mem.2 hop) s
  · simp only [step, pass, hr]

end Sys2Proof.Machine
end

section
/-! PROOFS. Family 40_load8: the 8-bit loads (R120 to R138). -/

namespace Sys2Proof.Machine

/-- A write of one register gives it the value and changes nothing else of the machine (R11). -/
theorem setReg8_spec (d : Reg8) (v : Byte) (s : State) :
    OnlyRegs s (s.setReg8 d v) ∧ (s.setReg8 d v).reg8 d = v ∧
    (∀ q, q ≠ d → (s.setReg8 d v).reg8 q = s.reg8 q) ∧ (s.setReg8 d v).regs.f = s.regs.f ∧
    (s.setReg8 d v).regs.sp = s.regs.sp ∧ (s.setReg8 d v).regs.pc = s.regs.pc :=
  ⟨rfl, (Regs.get8_set8 s.regs d d v).trans (if_pos rfl),
    fun q hq => (Regs.get8_set8 s.regs d q v).trans (if_neg hq), Regs.set8_others s.regs d v⟩

/-- Settles O40: both forms are a write of their destination. -/
theorem registerLoads : Obligations.RegisterLoads :=
  ⟨fun d r s => ⟨_, exec_toInstr (.ldRR d r) rfl s, setReg8_spec d (s.reg8 r) s⟩,
    fun d n s => ⟨_, exec_toInstr (.ldRN d n) rfl s, setReg8_spec d n s⟩⟩

/-- What a memory operand does to the registers after the access (R135 to R138). -/
def Place.afterRegs (p : Place) (g : Regs) : Regs :=
  match p with
  | .hlInc => g.setPair .HL (g.getPair .HL + 1)
  | .hlDec => g.setPair .HL (g.getPair .HL - 1)
  | .pair _ | .abs _ | .pageC | .page _ => g

/-- A memory operand moves nothing but registers. -/
theorem Place.after_eq (p : Place) (s : State) : p.after s = s.setRegs (p.afterRegs s.regs) := by
  cases p <;> rfl

/-- A form that means `loadFrom` loads the byte at its operand. -/
theorem loadsByte_of_loadFrom {f : Form} {d : Reg8} {p : Place} {a : Word} {s : State}
    (hexec : exec f.toInstr s = loadFrom d p s) (ha : p.address s = a) : LoadsByte f d a p.afterRegs s := by
  subst ha
  refine ⟨_, hexec, ?_, ?_, fun b hb => congrArg Prod.fst (memRead_of_peek (p.address s) s b hb)⟩
  · rw [Place.after_eq, State.setRegs_regs, State.setReg8_regs, memRead_regs]
    rfl
  · rw [Place.after_eq]
    exact ((onlyReads_memRead (p.address s) s).setRegs _).setRegs _

/-- Settles O41: every row is `loadFrom` its operand; the two operands of the page 0xFF are joined bytes (R98). -/
theorem memoryLoads : Obligations.MemoryLoads := fun s =>
  ⟨fun d => loadsByte_of_loadFrom (exec_toInstr (.ldRHL d) rfl s) rfl,
    loadsByte_of_loadFrom (exec_toInstr .ldABC rfl s) rfl,
    loadsByte_of_loadFrom (exec_toInstr .ldADE rfl s) rfl,
    fun nn => loadsByte_of_loadFrom (exec_toInstr (.ldANN nn) rfl s) rfl,
    loadsByte_of_loadFrom (exec_toInstr .ldAC rfl s) (page_address s.regs.c),
    fun n => loadsByte_of_loadFrom (exec_toInstr (.ldAN n) rfl s) (page_address n),
    loadsByte_of_loadFrom (exec_toInstr .ldAHLI rfl s) rfl,
    loadsByte_of_loadFrom (exec_toInstr .ldAHLD rfl s) rfl⟩

/-- A store touches no memory but the cells of its byte (R13, R377). -/
theorem onlyStores_memWrite (a : Word) (v : Byte) (s : State) : OnlyStores s (memWrite a v s) (s.cellsWritten a) :=
  ⟨⟨memWrite_ime a v s, memWrite_eiPending a v s, memWrite_run a v s, memWrite_params a v s⟩,
    memWrite_mem_other a v s⟩

/-- Registers written after the stores keep the frame. -/
theorem OnlyStores.setRegs {s t : State} {cells : List Nat} (h : OnlyStores s t cells) (r : Regs) :
    OnlyStores s (t.setRegs r) cells :=
  ⟨⟨h.control.ime, h.control.eiPending, h.control.run, h.control.params⟩, h.memory⟩

/-- A form that means `storeTo` stores its value at its operand. -/
theorem storesByte_of_storeTo {f : Form} {v : Byte} {p : Place} {a : Word} {s : State}
    (hexec : exec f.toInstr s = storeTo p v s) (ha : p.address s = a) : StoresByte f a v p.afterRegs s := by
  subst ha
  have hstate : p.after (memWrite (p.address s) v s) = (memWrite (p.address s) v s).setRegs (p.afterRegs s.regs) := by
    rw [Place.after_eq, memWrite_regs]
  refine ⟨_, hexec.trans (congrArg Host.Outcome.next hstate), rfl, (onlyStores_memWrite _ v s).setRegs _,
    memWrite_clock _ v s, fun k hk =>
      ⟨(memWrite_mem_of_cell hk v k).trans (if_pos rfl), memWrite_settings_of_cell _ v s k hk⟩⟩

/-- Settles O42: every row is `storeTo` its operand; the two operands of the page 0xFF are joined bytes (R98). -/
theorem memoryStores : Obligations.MemoryStores := fun s =>
  ⟨fun r => storesByte_of_storeTo (exec_toInstr (.ldHLR r) rfl s) rfl,
    fun n => storesByte_of_storeTo (exec_toInstr (.ldHLN n) rfl s) rfl,
    storesByte_of_storeTo (exec_toInstr .ldBCA rfl s) rfl,
    storesByte_of_storeTo (exec_toInstr .ldDEA rfl s) rfl,
    fun nn => storesByte_of_storeTo (exec_toInstr (.ldNNA nn) rfl s) rfl,
    storesByte_of_storeTo (exec_toInstr .ldCA rfl s) (page_address s.regs.c),
    fun n => storesByte_of_storeTo (exec_toInstr (.ldNA n) rfl s) (page_address n),
    storesByte_of_storeTo (exec_toInstr .ldHLIA rfl s) rfl,
    storesByte_of_storeTo (exec_toInstr .ldHLDA rfl s) rfl⟩

end Sys2Proof.Machine
end

section
/-! PROOFS. Family 41_load16_stack: the 16-bit loads and the sums with SP (R150, R151, R153, R201). -/

namespace Sys2Proof.Machine

/-- Registers written before an internal cycle keep its frame (R151). -/
theorem onlyReads_tick_setRegs (s : State) (r : Regs) : OnlyReads s (tick (s.setRegs r)) 1 :=
  (onlyReads_setRegs_zero s r).trans (onlyReads_tick _)

/-- Settles O43: `LD dd,nn` is one write of its pair, and `LD SP,HL` a write of SP and an internal cycle. -/
theorem pairLoads : Obligations.PairLoads :=
  ⟨fun nn s => ⟨exec_toInstr (.ldPairNN .BC nn) rfl s, exec_toInstr (.ldPairNN .DE nn) rfl s,
      exec_toInstr (.ldPairNN .HL nn) rfl s, exec_toInstr (.ldPairNN .SP nn) rfl s⟩,
    fun s => ⟨_, exec_toInstr .ldSPHL rfl s, tick_regs _, onlyReads_tick_setRegs s _⟩⟩

/-- The 16-bit sum with a sign-extended byte is the signed sum, wrapped (R153, R201). -/
theorem add_signExtend16_toInt (v : Word) (e : Byte) :
    (v + signExtend16 e).toInt = (v.toInt + e.toInt).bmod 65536 := by
  have hsigned : (signExtend16 e).toInt = e.toInt := BitVec.toInt_signExtend_of_le (by decide)
  rw [BitVec.toInt_add, hsigned]

/-- The flags of the sums with SP are those of the low bytes (R153, R201). -/
theorem spFlags_lowByteFlags (sp : Word) (e : Byte) : lowByteFlags sp e (spFlags sp e) :=
  ⟨rfl, rfl, decide_eq_true_iff, decide_eq_true_iff⟩

/-- Settles O44: both forms write the wrapped sum and the flags of the low bytes, in one and in two internal cycles. -/
theorem stackPointerSums : Obligations.StackPointerSums := by
  intro e s
  have hsum := add_signExtend16_toInt s.regs.sp e
  have hflags := spFlags_lowByteFlags s.regs.sp e
  refine ⟨⟨_, s.regs.sp + signExtend16 e, exec_toInstr (.ldhlSPE e) rfl s, hsum, ?_, ?_, ?_⟩,
    ⟨_, exec_toInstr (.addSPE e) rfl s, hsum, ?_, ?_, ?_⟩⟩
  · rw [tick_regs]
    rfl
  · rw [tick_regs]
    exact hflags
  · exact onlyReads_tick_setRegs s _
  · rw [State.setSp, State.setRegs_regs, tick_regs, tick_regs]
    rfl
  · rw [State.setSp, State.setRegs_regs, tick_regs, tick_regs]
    exact hflags
  · exact ((onlyReads_tick_setRegs s _).trans (onlyReads_tick _)).setRegs _

end Sys2Proof.Machine
end

section
/-! PROOFS. Family 42_alu8: the accumulator operations and the counts (R170 to R198). -/

namespace Sys2Proof.Machine

/-- Reading a second operand moves no register (R170). -/
theorem Source8.read_regs (o : Source8) (s : State) : (o.read s).2.regs = s.regs := by
  cases o with
  | reg r => rfl
  | imm n => rfl
  | atHL => exact memRead_regs s.hl s

/-- An accumulator operation reads its operand and writes A and F (R170): from there every clause is read off. -/
theorem accumulatorOperation_of_aluWith {f : Form} {op : AluOp} {o : Source8} {s : State}
    (hexec : exec f.toInstr s = aluWith op o s) :
    ∃ t, exec f.toInstr s = .next t ∧ t = (o.read s).2.setRegs t.regs ∧
      t.regs = { s.regs with a := t.regs.a, f := t.regs.f } ∧
      AluLeaves op s.regs.a (o.read s).1 s.regs.f.c t.regs.a t.regs.f := by
  refine ⟨_, hexec, rfl, ?_, ?_⟩
  · simp only [State.setFlags, State.setA, State.setRegs_regs, o.read_regs]
  · rw [o.read_regs]
    exact alu_spec op s.regs.a (o.read s).1 s.regs.f.c

/-- Settles O49: all three forms are `aluWith`; a register and an immediate byte are read without a bus access. -/
theorem accumulatorOperations : Obligations.AccumulatorOperations := by
  intro op s
  refine ⟨fun r => accumulatorOperation_of_aluWith (exec_toInstr (.aluR op r) rfl s),
    fun n => accumulatorOperation_of_aluWith (exec_toInstr (.aluN op n) rfl s), ?_⟩
  obtain ⟨t, hexec, ht, hregs, hleaves⟩ := accumulatorOperation_of_aluWith (exec_toInstr (.aluHL op) rfl s)
  have hframe : OnlyReads s t 1 := ht ▸ (onlyReads_memRead s.hl s).setRegs t.regs
  exact ⟨t, hexec, hframe, hregs, hleaves, fun b hb => congrArg Prod.fst (memRead_of_peek _ s b hb)⟩

/-- `INC r` and `DEC r` write the register and F, whatever the count (R195, R197). -/
theorem counts_of_stepReg {f : Form} {up : Bool} {g : Byte → Flags → Alu8} {r : Reg8} {s : State}
    (hexec : exec f.toInstr s = stepReg g r s) (hg : ∀ v F, CountsTo up v F (g v F).res (g v F).flags) :
    ∃ t, exec f.toInstr s = .next t ∧ OnlyRegs s t ∧ t.regs = { s.regs.set8 r (t.reg8 r) with f := t.regs.f } ∧
      CountsTo up (s.reg8 r) s.regs.f (t.reg8 r) t.regs.f := by
  have hreg : ((s.setReg8 r (g (s.reg8 r) s.regs.f).res).setFlags (g (s.reg8 r) s.regs.f).flags).reg8 r =
      (g (s.reg8 r) s.regs.f).res := set8_get8 s.regs r _ _
  refine ⟨_, hexec, rfl, ?_, ?_⟩
  · rw [hreg]
    rfl
  · rw [hreg]
    exact hg (s.reg8 r) s.regs.f

/-- `INC (HL)` and `DEC (HL)` are a read-modify-write at HL (R196, R198). -/
theorem counts_of_modifyHL {f : Form} {up : Bool} {g : Byte → Flags → Alu8} {s : State}
    (hexec : exec f.toInstr s = .next (modifyHL g s)) (hg : ∀ v F, CountsTo up v F (g v F).res (g v F).flags) :
    ∃ t v res, exec f.toInstr s = .next t ∧ RewritesByteAtHL s t v res ∧ CountsTo up v s.regs.f res t.regs.f := by
  obtain ⟨hrewrites, hregs⟩ := modify_spec g s
  refine ⟨_, _, _, hexec, hrewrites, ?_⟩
  rw [hregs]
  exact hg _ s.regs.f

/-- Settles O50: on a register `stepReg`, at HL `modifyHL`, each with the count of one byte. -/
theorem incrementsAndDecrements : Obligations.IncrementsAndDecrements := fun s =>
  ⟨fun r => counts_of_stepReg (exec_toInstr (.incR r) rfl s) inc_spec,
    fun r => counts_of_stepReg (exec_toInstr (.decR r) rfl s) dec_spec,
    counts_of_modifyHL (exec_toInstr .incHL rfl s) inc_spec,
    counts_of_modifyHL (exec_toInstr .decHL rfl s) dec_spec⟩

end Sys2Proof.Machine
end

section
/-! PROOFS. Family 42_alu8: `DAA` after decimal sums and differences (R170, R261). The two corrections apply exactly
where the decimal digits carry or borrow. -/

namespace Sys2Proof.Machine

/-- The two digits of a decimal number are the nibbles of its byte. -/
theorem bcd_toNat {n : Nat} (h : n < 100) : (bcd n).toNat = n / 10 * 16 + n % 10 := by
  rw [bcd, BitVec.toNat_ofNat]
  omega

/-- The two corrections meet in no bit, so they add up (R261). -/
theorem daaCorrection_toNat (a : Byte) (f : Flags) :
    (daaCorrection a f).toNat = (if daaLow a f then 6 else 0) + (if daaHigh a f then 96 else 0) := by
  rw [daaCorrection]
  cases daaLow a f <;> cases daaHigh a f <;> rfl

/-- Where N is clear `DAA` adds its correction (R261). -/
theorem daaApply_res_of_sum {a : Byte} {f : Flags} (hn : f.n = false) :
    (daaApply a f).res = a + daaCorrection a f := by simp [daaApply, hn]

/-- Where N is set `DAA` subtracts its correction (R261). -/
theorem daaApply_res_of_difference {a : Byte} {f : Flags} (hn : f.n = true) :
    (daaApply a f).res = a - daaCorrection a f := by simp [daaApply, hn]

/-- The carry after `DAA` is the high correction (R261). -/
theorem daaApply_carry (a : Byte) (f : Flags) : (daaApply a f).flags.c = daaHigh a f := rfl

section
variable {x y : Nat} (hx : x < 100) (hy : y < 100) (c : Bool)
include hx hy

/-- The binary sum of two decimal numbers before its adjustment (R170). -/
theorem add8_bcd_toNat : (add8 (bcd x) (bcd y) c).res.toNat =
    (x / 10 * 16 + x % 10 + (y / 10 * 16 + y % 10) + c.toNat) % 256 := by
  rw [add8, BitVec.toNat_ofNat, bcd_toNat hx, bcd_toNat hy, carryNat]

/-- After a sum the low correction applies iff the low digits carry (R261). -/
theorem daaLow_add8_bcd : daaLow (add8 (bcd x) (bcd y) c).res (add8 (bcd x) (bcd y) c).flags =
    decide (x % 10 + y % 10 + c.toNat > 9) := by
  have hc := c.toNat_le
  rw [Bool.eq_iff_iff]
  simp only [daaLow, lowNibble, add8_bcd_toNat hx hy c]
  simp only [add8, lowNibble, carryNat, bcd_toNat hx, bcd_toNat hy, Bool.or_eq_true, Bool.not_false, Bool.true_and,
    decide_eq_true_eq]
  omega

/-- After a sum the high correction applies iff the decimal sum has three digits (R261). -/
theorem daaHigh_add8_bcd : daaHigh (add8 (bcd x) (bcd y) c).res (add8 (bcd x) (bcd y) c).flags =
    decide (x + y + c.toNat > 99) := by
  have hc := c.toNat_le
  have hcarry : ∀ sum : Nat, sum > 0xFF ∨ sum % 256 > 0x99 ↔ sum > 0x99 := by omega
  rw [Bool.eq_iff_iff]
  simp only [daaHigh, add8_bcd_toNat hx hy c]
  simp only [add8, carryNat, bcd_toNat hx, bcd_toNat hy, Bool.or_eq_true, Bool.not_false, Bool.true_and,
    decide_eq_true_eq]
  rw [hcarry]
  omega

/-- `DAA` turns the binary sum into the two digits of the decimal sum (R261). -/
theorem daaApply_add8_bcd_res : (daaApply (add8 (bcd x) (bcd y) c).res (add8 (bcd x) (bcd y) c).flags).res =
    bcd ((x + y + c.toNat) % 100) := by
  have hc := c.toNat_le
  apply BitVec.eq_of_toNat_eq
  rw [daaApply_res_of_sum rfl, BitVec.toNat_add, daaCorrection_toNat, daaLow_add8_bcd hx hy,
    daaHigh_add8_bcd hx hy, add8_bcd_toNat hx hy, bcd_toNat (Nat.mod_lt _ (by decide))]
  simp only [decide_eq_true_eq]
  split <;> split <;> omega

/-- The binary difference of two decimal numbers before its adjustment (R170). -/
theorem sub8_bcd_toNat : (sub8 (bcd x) (bcd y) c).res.toNat =
    (x / 10 * 16 + x % 10 + 512 - (y / 10 * 16 + y % 10) - c.toNat) % 256 := by
  have hc := c.toNat_le
  rw [sub8, BitVec.toNat_sub, BitVec.toNat_sub, BitVec.toNat_ofNat, bcd_toNat hx, bcd_toNat hy, carryNat]
  omega

/-- After a difference the low correction applies iff the low digits borrow (R261). -/
theorem daaLow_sub8_bcd : daaLow (sub8 (bcd x) (bcd y) c).res (sub8 (bcd x) (bcd y) c).flags =
    decide (x % 10 < y % 10 + c.toNat) := by
  have hc := c.toNat_le
  rw [Bool.eq_iff_iff]
  simp only [daaLow, sub8, lowNibble, carryNat, bcd_toNat hx, bcd_toNat hy, Bool.not_true, Bool.false_and,
    Bool.or_false, decide_eq_true_eq]
  omega

/-- After a difference the high correction applies iff the decimal difference borrows (R261). -/
theorem daaHigh_sub8_bcd : daaHigh (sub8 (bcd x) (bcd y) c).res (sub8 (bcd x) (bcd y) c).flags =
    decide (x < y + c.toNat) := by
  have hc := c.toNat_le
  rw [Bool.eq_iff_iff]
  simp only [daaHigh, sub8, carryNat, bcd_toNat hx, bcd_toNat hy, Bool.not_true, Bool.false_and,
    Bool.or_false, decide_eq_true_eq]
  omega

/-- `DAA` turns the binary difference into the two digits of the decimal difference (R261). -/
theorem daaApply_sub8_bcd_res : (daaApply (sub8 (bcd x) (bcd y) c).res (sub8 (bcd x) (bcd y) c).flags).res =
    bcd ((x + 100 - y + 100 - c.toNat) % 100) := by
  have hc := c.toNat_le
  apply BitVec.eq_of_toNat_eq
  rw [daaApply_res_of_difference rfl, BitVec.toNat_sub, daaCorrection_toNat, daaLow_sub8_bcd hx hy,
    daaHigh_sub8_bcd hx hy, sub8_bcd_toNat hx hy, bcd_toNat (Nat.mod_lt _ (by decide))]
  simp only [decide_eq_true_eq]
  split <;> split <;> omega

end

/-- Settles O59: the adjusted digits, and the carry that is the high correction. -/
theorem decimalArithmetic : Obligations.DecimalArithmetic := by
  intro x y c hx hy
  refine ⟨⟨daaApply_add8_bcd_res hx hy c, ?_⟩, daaApply_sub8_bcd_res hx hy c, ?_⟩
  · rw [daaApply_carry, daaHigh_add8_bcd hx hy, decide_eq_true_eq]
  · rw [daaApply_carry, daaHigh_sub8_bcd hx hy, decide_eq_true_eq]

end Sys2Proof.Machine
end

section
/-! PROOFS. Family 43_alu16: the sums and the counts on register pairs (R200, R202, R203). -/

namespace Sys2Proof.Machine

/-- The next state of `ADD HL,ss`: one internal cycle after one write of HL and F (R200). -/
theorem addHLPair_eq_tick_setRegs (p : Pair) (s : State) :
    addHLPair p s = .next (tick (s.setRegs { s.regs.setPair .HL (s.regs.getPair .HL + s.regs.getPair p) with
      f := addHLFlags (s.regs.getPair .HL) (s.regs.getPair p) s.regs.f })) := rfl

/-- Settles O51: each row writes its registers and then takes one internal cycle; adding -1 is subtracting 1. -/
theorem pairArithmetic : Obligations.PairArithmetic := by
  intro p s hp
  have hadd := (exec_toInstr (.addHLPair p) hp s).trans (addHLPair_eq_tick_setRegs p s)
  refine ⟨⟨_, hadd, onlyReads_tick_setRegs s _, ?_⟩,
    ⟨_, exec_toInstr (.incPair p) hp s, onlyReads_tick_setRegs s _, tick_regs _⟩,
    ⟨_, exec_toInstr (.decPair p) hp s, onlyReads_tick_setRegs s _, ?_⟩⟩
  · rw [tick_regs]
    exact ⟨rfl, rfl, rfl, decide_eq_true_iff, decide_eq_true_iff⟩
  · rw [tick_regs, BitVec.sub_eq_add_neg]
    rfl

end Sys2Proof.Machine
end

section
/-! PROOFS. Family 44_rotate_shift_bit: rotates, shifts and `SWAP` (R210 to R230). -/

namespace Sys2Proof.Machine

/-- The flags of a rotate or shift are read off the result and the bit moved out (R214). -/
theorem Shifted.flags_shiftFlags (x : Shifted) : shiftFlags x.res x.co x.flags := ⟨beq_iff_eq, rfl, rfl, rfl⟩

/-- A form that means `shiftR` writes its register and F, whose values `shift_spec` describes (R214). -/
theorem shiftsRegister_of_shiftR {f : Form} {op : ShiftOp} {r : Reg8} {s : State}
    (hexec : exec f.toInstr s = shiftR op r s) :
    ∃ t out, exec f.toInstr s = .next t ∧ OnlyRegs s t ∧ t.regs = { s.regs.set8 r (t.reg8 r) with f := t.regs.f } ∧
      ShiftLeaves op (s.reg8 r) s.regs.f.c (t.reg8 r) out ∧ shiftFlags (t.reg8 r) out t.regs.f := by
  have hreg (x : Shifted) : ((s.setReg8 r x.res).setFlags x.flags).reg8 r = x.res := set8_get8 s.regs r x.res x.flags
  refine ⟨_, (shiftApply op (s.reg8 r) s.regs.f.c).co, hexec, rfl, ?_, ?_, ?_⟩
  · rw [hreg]
    rfl
  · rw [hreg]
    exact shift_spec op (s.reg8 r) s.regs.f.c
  · rw [hreg]
    exact Shifted.flags_shiftFlags _

/-- A form that means `shiftHL` is a read-modify-write at HL, whose byte `shift_spec` describes (R52, R214). -/
theorem shiftsByteAtHL_of_shiftHL {f : Form} {op : ShiftOp} {s : State} (hexec : exec f.toInstr s = shiftHL op s) :
    ∃ t v res out, exec f.toInstr s = .next t ∧ RewritesByteAtHL s t v res ∧ ShiftLeaves op v s.regs.f.c res out ∧
      shiftFlags res out t.regs.f := by
  obtain ⟨hrewrites, hregs⟩ :=
    modify_spec (fun v F => { res := (shiftApply op v F.c).res, flags := (shiftApply op v F.c).flags }) s
  refine ⟨_, _, _, _, hexec, hrewrites, shift_spec op _ s.regs.f.c, ?_⟩
  rw [hregs]
  exact Shifted.flags_shiftFlags _

/-- A form that means `rotateA` writes A and F, and its Z is 0 whatever the result (R210). -/
theorem rotatesA_of_rotateA {f : Form} {op : ShiftOp} {s : State} (hexec : exec f.toInstr s = rotateA op s) :
    ∃ t out, exec f.toInstr s = .next t ∧ OnlyRegs s t ∧ t.regs = { s.regs with a := t.regs.a, f := t.regs.f } ∧
      ShiftLeaves op s.regs.a s.regs.f.c t.regs.a out ∧
      t.regs.f = { z := false, n := false, h := false, c := out } :=
  ⟨_, _, hexec, rfl, rfl, shift_spec op s.regs.a s.regs.f.c, rfl⟩

/-- Settles O52: the four rotates of A are `rotateA`, the rows of the CB table `shiftR` and `shiftHL`. -/
theorem rotatesAndShifts : Obligations.RotatesAndShifts := by
  refine ⟨fun s op f hf => ?_, fun s op r => shiftsRegister_of_shiftR (exec_toInstr (.shiftR op r) rfl s),
    fun s op => shiftsByteAtHL_of_shiftHL (exec_toInstr (.shiftHL op) rfl s)⟩
  simp only [List.mem_cons, Prod.mk.injEq, List.not_mem_nil, or_false] at hf
  rcases hf with ⟨rfl, rfl⟩ | ⟨rfl, rfl⟩ | ⟨rfl, rfl⟩ | ⟨rfl, rfl⟩
  · exact rotatesA_of_rotateA (exec_toInstr .rlca rfl s)
  · exact rotatesA_of_rotateA (exec_toInstr .rla rfl s)
  · exact rotatesA_of_rotateA (exec_toInstr .rrca rfl s)
  · exact rotatesA_of_rotateA (exec_toInstr .rra rfl s)

end Sys2Proof.Machine
end

section
/-! PROOFS. Family 44_rotate_shift_bit: `BIT`, `RES` and `SET` (R231 to R236). -/

namespace Sys2Proof.Machine

/-- The flags of `BIT`: Z from the tested bit, N clear, H set, C kept (R231). -/
theorem bitTestFlags_spec (b : Code3) (v : Byte) (f : Flags) :
    ((bitTestFlags b v f).z = true ↔ v.getLsbD b.val = false) ∧ (bitTestFlags b v f).n = false ∧
      (bitTestFlags b v f).h = true ∧ (bitTestFlags b v f).c = f.c :=
  ⟨by simp only [bitTestFlags, Bool.not_eq_true'], rfl, rfl, rfl⟩

/-- Settles O53: both forms write F alone; the form on (HL) does so after its one read. -/
theorem bitTest : Obligations.BitTest := by
  intro b s
  refine ⟨fun r => ⟨_, exec_toInstr (.bitR b r) rfl s, rfl, rfl, bitTestFlags_spec b (s.reg8 r) s.regs.f⟩,
    _, _, exec_toInstr (.bitHL b) rfl s, (onlyReads_memRead s.hl s).setRegs _, ?_, rfl,
    fun w hw => congrArg Prod.fst (memRead_of_peek _ s w hw), ?_⟩
  · rw [State.setFlags, State.setRegs_regs, memRead_regs]
  · rw [State.setFlags, State.setRegs_regs, memRead_regs]
    exact bitTestFlags_spec b (memRead s.hl s).1 s.regs.f

section
variable {f : Form} {b : Code3} {x : Bool} {change : Byte → Byte} {s : State}
  (hbit : ∀ v i, i < 8 → (change v).getLsbD i = if i = b.val then x else v.getLsbD i)
include hbit

/-- A form that writes its register with one bit changed writes nothing else (R233, R235). -/
theorem bitOfRegister_of_setReg8 {r : Reg8} (hexec : exec f.toInstr s = .next (s.setReg8 r (change (s.reg8 r)))) :
    ∃ t, exec f.toInstr s = .next t ∧ OnlyRegs s t ∧ t.regs = s.regs.set8 r (t.reg8 r) ∧
      ∀ i, i < 8 → (t.reg8 r).getLsbD i = if i = b.val then x else (s.reg8 r).getLsbD i := by
  obtain ⟨honly, hreg, -⟩ := setReg8_spec r (change (s.reg8 r)) s
  refine ⟨_, hexec, honly, ?_, ?_⟩
  · rw [hreg]
    rfl
  · rw [hreg]
    exact hbit (s.reg8 r)

/-- A read-modify-write at HL that changes one bit and hands F through writes no register (R234, R236). -/
theorem bitAtHL_of_modifyHL
    (hexec : exec f.toInstr s = .next (modifyHL (fun v F => { res := change v, flags := F }) s)) :
    ∃ t v res, exec f.toInstr s = .next t ∧ RewritesByteAtHL s t v res ∧ t.regs = s.regs ∧
      ∀ i, i < 8 → res.getLsbD i = if i = b.val then x else v.getLsbD i := by
  obtain ⟨hrewrites, hregs⟩ := modify_spec (fun v F => { res := change v, flags := F }) s
  exact ⟨_, _, _, hexec, hrewrites, hregs, hbit _⟩

end

/-- Settles O54: `RES` is `clearBit` and `SET` is `raiseBit`, each on a register and on the byte at HL. -/
theorem bitResetAndSet : Obligations.BitResetAndSet := by
  intro b s f g x h
  rcases h with ⟨rfl, rfl, rfl⟩ | ⟨rfl, rfl, rfl⟩
  · exact ⟨fun r => bitOfRegister_of_setReg8 (bits_clear b) (exec_toInstr (.resR b r) rfl s),
      bitAtHL_of_modifyHL (bits_clear b) (exec_toInstr (.resHL b) rfl s)⟩
  · exact ⟨fun r => bitOfRegister_of_setReg8 (bits_raise b) (exec_toInstr (.setR b r) rfl s),
      bitAtHL_of_modifyHL (bits_raise b) (exec_toInstr (.setHL b) rfl s)⟩

end Sys2Proof.Machine
end

section
/-! PROOFS. Family 46_misc_control: `DAA` and the control instructions (R260 to R268). -/

namespace Sys2Proof.Machine

/-- The two corrections meet in no bit, so their disjunction is their sum as a byte too (R261). -/
theorem daaCorrection_eq_add {a : Byte} {f : Flags} {low high : Prop} [Decidable low] [Decidable high]
    (hlow : daaLow a f = true ↔ low) (hhigh : daaHigh a f = true ↔ high) :
    daaCorrection a f = (if low then 0x06 else 0x00) + (if high then 0x60 else 0x00) := by
  simp only [← hlow, ← hhigh]
  apply BitVec.eq_of_toNat_eq
  rw [daaCorrection_toNat]
  cases daaLow a f <;> cases daaHigh a f <;> rfl

section
variable {f : Flags} (a : Byte)

/-- Where N is clear the low correction looks at H and at the low digit (R261). -/
theorem daaLow_iff_of_sum (hn : f.n = false) : daaLow a f = true ↔ f.h = true ∨ a.toNat % 16 > 9 := by
  simp [daaLow, lowNibble, hn]

/-- Where N is clear the high correction looks at C and at the whole of A (R261). -/
theorem daaHigh_iff_of_sum (hn : f.n = false) : daaHigh a f = true ↔ f.c = true ∨ a.toNat > 0x99 := by
  simp [daaHigh, hn]

/-- Where N is set the low correction looks at H alone (R261). -/
theorem daaLow_of_difference (hn : f.n = true) : daaLow a f = f.h := by simp [daaLow, hn]

/-- Where N is set the high correction looks at C alone (R261). -/
theorem daaHigh_of_difference (hn : f.n = true) : daaHigh a f = f.c := by simp [daaHigh, hn]

end

/-- Settles O58: `DAA` writes A and F, and N says which way the correction goes and what it looks at. -/
theorem decimalAdjust : Obligations.DecimalAdjust := by
  intro s
  refine ⟨_, daaCorrection s.regs.a s.regs.f, exec_toInstr .daa rfl s, rfl, rfl, fun hn => ?sum,
    fun hn => ?difference, beq_iff_eq, rfl, rfl⟩
  case sum =>
    have hlow := daaLow_iff_of_sum s.regs.a hn
    have hhigh := daaHigh_iff_of_sum s.regs.a hn
    exact ⟨daaCorrection_eq_add hlow hhigh, daaApply_res_of_sum hn, hhigh⟩
  case difference =>
    have hlow := daaLow_of_difference s.regs.a hn
    have hhigh := daaHigh_of_difference s.regs.a hn
    exact ⟨daaCorrection_eq_add (Bool.eq_iff_iff.1 hlow) (Bool.eq_iff_iff.1 hhigh),
      daaApply_res_of_difference hn, hhigh⟩

/-- `CPL` turns over each of the eight bits (R262). -/
theorem getLsbD_complement (a : Byte) {i : Nat} (hi : i < 8) : (~~~ a).getLsbD i = !a.getLsbD i := by
  rw [BitVec.getLsbD_not, decide_eq_true hi, Bool.true_and]

/-- Settles O60: the meaning of each row writes just the named fields. -/
theorem controlInstructions : Obligations.ControlInstructions := fun s =>
  ⟨⟨_, exec_toInstr .cpl rfl s, rfl, rfl, fun _ hi => getLsbD_complement _ hi⟩,
    exec_toInstr .ccf rfl s, exec_toInstr .scf rfl s, exec_toInstr .nop rfl s, exec_toInstr .di rfl s,
    exec_toInstr .ei rfl s, exec_toInstr .halt rfl s, exec_toInstr .stop rfl s⟩

end Sys2Proof.Machine
end

section
/-! PROOFS. Family 60_exceptions: interrupt requests and their priority (R311 to R315), and the timer (R345 to R352). -/

namespace Sys2Proof.Machine

/-- Settles O19: a request sets its mask, and each operation keeps the requests there are. -/
theorem requestsStayPending : Obligations.RequestsStayPending :=
  ⟨fun k s => ⟨rfl, rfl, fun j _ => request_getLsbD k s j⟩, keepsRequests_tick,
    fun s a => keepsRequests_busRead a s, fun s a v j ha => keepsRequests_busWrite a v s ha j,
    fun s k j hj h1 h2 => takeInterrupt_getLsbD_of_ne k s j hj h1 h2⟩

/-- One more clear bit above clear bits. -/
theorem clear_below_succ {p : BitVec 5} {n : Nat} (h : ∀ j, j < n → p.getLsbD j = false) (hn : ¬p.getLsbD n = true) :
    ∀ j, j < n + 1 → p.getLsbD j = false := by
  intro j hj
  rcases Nat.lt_or_eq_of_le (Nat.le_of_lt_succ hj) with hlt | rfl
  · exact h j hlt
  · exact Bool.eq_false_iff.2 hn

/-- Settles O16: one case for each source, by the first bit that is set; a set that is not empty has one. -/
theorem lowestPendingSourceWins : Obligations.LowestPendingSourceWins := by
  intro p hp
  unfold leastSource
  have hclear0 : ∀ j, j < 0 → p.getLsbD j = false := fun j hj => absurd hj (Nat.not_lt_zero j)
  split
  case isTrue h0 => exact ⟨h0, hclear0⟩
  case isFalse h0 =>
  have hclear1 := clear_below_succ hclear0 h0
  split
  case isTrue h1 => exact ⟨h1, hclear1⟩
  case isFalse h1 =>
  have hclear2 := clear_below_succ hclear1 h1
  split
  case isTrue h2 => exact ⟨h2, hclear2⟩
  case isFalse h2 =>
  have hclear3 := clear_below_succ hclear2 h2
  split
  case isTrue h3 => exact ⟨h3, hclear3⟩
  case isFalse h3 =>
  have hclear4 := clear_below_succ hclear3 h3
  refine ⟨Decidable.byContradiction fun h4 => hp ?_, hclear4⟩
  exact BitVec.eq_of_getLsbD_eq fun i hi => (clear_below_succ hclear4 h4 i hi).trans BitVec.getLsbD_zero.symm

/-- A reload is requested only on a falling edge (R350). -/
theorem Timer.overflows_iff (t : Timer) : t.overflows = true ↔ t.falls = true ∧ t.tima = 0xFF := by
  rw [Timer.overflows, Bool.and_eq_true, beq_iff_eq]

theorem Timer.falls_iff (t : Timer) : t.falls = true ↔ t.prevEdge = true ∧ t.nextGated = false := by
  rw [Timer.falls, Bool.and_eq_true, Bool.not_eq_true']

/-- A step that sees no falling edge leaves TIMA (R350). -/
theorem Timer.step_of_not_falls {t : Timer} (h : t.falls = false) :
    t.step = { t with div := t.div + 1, prevEdge := t.nextGated } ∧ t.overflows = false := by
  simp [Timer.step, Timer.overflows, h]

/-- What a falling edge makes of TIMA (R350). -/
def Timer.counted (t : Timer) : Byte := if t.tima = 0xFF then t.tma else t.tima + 1

/-- A step that sees a falling edge counts TIMA (R350). -/
theorem Timer.step_of_falls {t : Timer} (h : t.falls = true) :
    t.step = { t with div := t.div + 1, tima := t.counted, prevEdge := t.nextGated } := by
  simp [Timer.step, Timer.overflows, Timer.counted, h]

/-- `TimerStep()` writes the timer and IF (R350). -/
theorem timerStep_frame (s : State) :
    timerStep s = (s.setTimer (timerStep s).timer).setIrq (timerStep s).irq := by
  rw [timerStep_timer, timerStep]
  cases s.timer.overflows <;> rfl

/-- `TimerStep()` requests interrupt 2 on a reload (R350). -/
theorem timerStep_irq (s : State) : (timerStep s).irq =
    if s.timer.overflows then { s.irq with flag := s.irq.flag ||| 0b00100 } else s.irq := by
  rw [timerStep]
  cases s.timer.overflows <;> rfl

/-- Settles O21: the falling edge of R350 is that of `Timer.falls`, and a count reloads where TIMA holds 0xFF. -/
theorem timerStep_counts : Obligations.TimerStep := by
  intro s
  refine ⟨timerStep s, rfl, timerStep_frame s, ?_⟩
  rw [timerStep_timer, timerStep_irq]
  refine ⟨rfl, rfl, rfl, rfl, fun hprev hnext htima => ?reload, fun hprev hnext htima => ?count, fun hno => ?keep⟩
  case reload =>
    have hfalls : s.timer.falls = true := s.timer.falls_iff.2 ⟨hprev, hnext⟩
    rw [Timer.step_of_falls hfalls, s.timer.overflows_iff.2 ⟨hfalls, htima⟩]
    exact ⟨if_pos htima, rfl⟩
  case count =>
    have hfalls : s.timer.falls = true := s.timer.falls_iff.2 ⟨hprev, hnext⟩
    have hover : ¬s.timer.overflows = true := fun h => htima (s.timer.overflows_iff.1 h).2
    rw [Timer.step_of_falls hfalls, if_neg hover]
    exact ⟨if_neg htima, rfl⟩
  case keep =>
    have hfalls : s.timer.falls = false := by
      rcases hno with hprev | hnext
      · simp [Timer.falls, hprev]
      · have hgated : s.timer.nextGated = true := hnext
        simp [Timer.falls, hgated]
    obtain ⟨hstep, hover⟩ := Timer.step_of_not_falls hfalls
    rw [hstep, hover]
    exact ⟨rfl, rfl⟩

theorem timerSteps_succ (n : Nat) (t : Timer) : timerSteps (n + 1) t = (timerSteps n t).step := by
  induction n generalizing t with
  | zero => rfl
  | succ n ih => exact ih t.step

/-- T-states of a timer at the 16384 Hz setting up to the falling edge of bit 7 of its counter (R349). -/
def Timer.untilEdge (t : Timer) : Nat := 255 - t.div.toNat % 256

/-- A timer at the 16384 Hz setting `n` T-states later, at most one period: the counter and its edge detector have
moved on, and TIMA has counted once the edge has passed. -/
def Timer.later (t : Timer) (n : Nat) : Timer :=
  { t with
    div := t.div + BitVec.ofNat 16 n
    tima := if n ≤ t.untilEdge then t.tima else t.counted
    prevEdge := (t.div + BitVec.ofNat 16 n).getLsbD 7 }

/-- Bit 7 of a counter is set in the upper half of each 256 (R349). -/
theorem getLsbD_seven (d : Word) : d.getLsbD 7 = decide (128 ≤ d.toNat % 256) := by
  rw [BitVec.getLsbD, Nat.testBit_eq_decide_div_mod_eq, decide_eq_decide]
  omega

theorem add_ofNat_add_one (d : Word) (n : Nat) : d + BitVec.ofNat 16 n + 1 = d + BitVec.ofNat 16 (n + 1) := by
  rw [BitVec.ofNat_add, BitVec.add_assoc]
  rfl

section
variable {t : Timer} (htac : t.tac = 0b111)
include htac

/-- At the 16384 Hz setting the gated bit is bit 7 of the counter (R349). -/
theorem Timer.nextGated_later (n : Nat) :
    (t.later n).nextGated = (t.div + BitVec.ofNat 16 (n + 1)).getLsbD 7 := by
  simp [Timer.nextGated, Timer.later, gatedBit, timerBit, htac, ← add_ofNat_add_one]

/-- Within a period the falling edge comes once: where the counter leaves the upper half of its 256 (R350). -/
theorem Timer.falls_later {n : Nat} (hn : n < 256) : (t.later n).falls = true ↔ n = t.untilEdge := by
  rw [Timer.falls_iff, Timer.nextGated_later htac]
  simp only [Timer.later, getLsbD_seven, Timer.untilEdge, BitVec.toNat_add, BitVec.toNat_ofNat, decide_eq_true_iff,
    decide_eq_false_iff_not]
  omega

theorem Timer.step_later {n : Nat} (hn : n < 256) : (t.later n).step = t.later (n + 1) := by
  have hdiv := add_ofNat_add_one t.div n
  have hgated := Timer.nextGated_later htac n
  by_cases hedge : n = t.untilEdge
  · have hbefore : n ≤ t.untilEdge := Nat.le_of_eq hedge
    have hpast : ¬n + 1 ≤ t.untilEdge := by omega
    rw [Timer.step_of_falls ((Timer.falls_later htac hn).2 hedge), hgated]
    simp only [Timer.later, Timer.counted, hdiv, if_pos hbefore, if_neg hpast]
  · have hno : (t.later n).falls = false := Bool.eq_false_iff.2 (mt (Timer.falls_later htac hn).1 hedge)
    have hsame : n + 1 ≤ t.untilEdge ↔ n ≤ t.untilEdge := by omega
    rw [(Timer.step_of_not_falls hno).1, hgated]
    simp only [Timer.later, hdiv, hsame]

/-- At the 16384 Hz setting, from a settled edge detector, a period in closed form. -/
theorem timerSteps_eq_later (hprev : t.prevEdge = t.div.getLsbD 7) {n : Nat} (hn : n ≤ 256) :
    timerSteps n t = t.later n := by
  induction n with
  | zero => simp only [timerSteps, Timer.later, BitVec.add_zero, ← hprev, Nat.zero_le, if_true]
  | succ n ih => rw [timerSteps_succ, ih (Nat.le_of_succ_le hn), Timer.step_later htac hn]

end

/-- Settles O22: within a period the one falling edge is at `Timer.untilEdge`. -/
theorem timerPeriod : Obligations.TimerPeriod := by
  intro t htac hprev
  have hedge : t.untilEdge < 256 := by unfold Timer.untilEdge; omega
  have hfalls {j : Nat} (hj : j < 256) : (timerSteps j t).falls = true ↔ j = t.untilEdge := by
    rw [timerSteps_eq_later htac hprev (Nat.le_of_lt hj), Timer.falls_later htac hj]
  have htima : (timerSteps 256 t).tima = t.counted := by
    rw [timerSteps_eq_later htac hprev (Nat.le_refl 256)]
    exact if_neg (Nat.not_le.2 hedge)
  refine ⟨⟨t.untilEdge, hedge, (hfalls hedge).2 rfl, fun j hj => (hfalls hj).1⟩, fun hne => ?_, fun heq => ?_⟩
  · exact htima.trans (if_neg hne)
  · exact htima.trans (if_pos heq)

end Sys2Proof.Machine
end

section
/-! PROOFS. Family 60_exceptions: the serial controller (R355 to R360). -/

namespace Sys2Proof.Machine

theorem serialSteps_succ (n : Nat) (c : Serial) : serialSteps (n + 1) c = (serialSteps n c).step := by
  induction n generalizing c with
  | zero => rfl
  | succ n ih => exact ih c.step

/-- A step that shifts nothing moves the accumulator alone (R358). -/
theorem Serial.step_of_not_shifts {c : Serial} (h : c.shifts = false) :
    c.step = { c with acc := if c.ticks then 0 else c.acc + 1 } := by
  simp [Serial.step, Serial.completes, h]

/-- On the external clock no step shifts (R360). -/
theorem Serial.shifts_of_external {c : Serial} (h : c.internal = false) : c.shifts = false := by
  rw [Serial.shifts, h, Bool.and_false]

/-- Settles O25: by induction, each step being one of the accumulator alone. -/
theorem externalClockNeverShifts : Obligations.ExternalClockNeverShifts := by
  intro c n hext
  induction n with
  | zero => exact ⟨c.acc, rfl⟩
  | succ n ih =>
    obtain ⟨acc, h⟩ := ih
    have hno : Serial.shifts { c with acc := acc } = false := Serial.shifts_of_external hext
    exact ⟨_, by rw [serialSteps_succ, h, Serial.step_of_not_shifts hno]⟩

/-- `k` bits shifted (R358). -/
def Serial.shiftN (c : Serial) : Nat → Serial
  | 0 => c
  | k + 1 => (c.shiftN k).shift

/-- Only a completion ends a transfer (R358, R359). -/
theorem Serial.shiftN_running (c : Serial) (k : Nat) : (c.shiftN k).running = c.running := by
  induction k with
  | zero => rfl
  | succ k ih => exact ih

theorem Serial.shiftN_internal (c : Serial) (k : Nat) : (c.shiftN k).internal = c.internal := by
  induction k with
  | zero => rfl
  | succ k ih => exact ih

theorem Serial.shiftN_bitCount (c : Serial) (k : Nat) : (c.shiftN k).bitCount = c.bitCount + k := by
  induction k with
  | zero => rfl
  | succ k ih => exact congrArg (· + 1) ih

/-- Each shift takes one bit of the link (R358). -/
theorem Serial.shiftN_line (c : Serial) (k : Nat) : (c.shiftN k).line = c.line.drop k := by
  induction k with
  | zero => rfl
  | succ k ih => rw [Serial.shiftN, Serial.shift, ih, List.tail_drop]

/-- The bit that the next shift takes (R358, log 6). -/
theorem Serial.shiftN_nextBit (c : Serial) (k : Nat) : (c.shiftN k).nextBit = c.line.getD k true := by
  rw [Serial.nextBit, Serial.shiftN_line, List.headD_eq_head?_getD, List.head?_drop, List.getD_eq_getElem?_getD]

/-- A byte shifted left by one bit, with a new bit 0 (R358). -/
theorem getLsbD_shiftIn (v : Byte) (b : Bool) {i : Nat} (hi : i < 8) :
    (v.extractLsb' 0 7 ++ BitVec.ofBool b).getLsbD i = if i = 0 then b else v.getLsbD (i - 1) := by
  rw [BitVec.getLsbD_append]
  cases i with
  | zero => cases b <;> rfl
  | succ i =>
    have hi7 : i < 7 := by omega
    simp [hi7]

/-- SB after `k` shifts: the last `k` bits of the link below what is left of it (R358). -/
theorem Serial.shiftN_sb (c : Serial) (k : Nat) {i : Nat} (hi : i < 8) : (c.shiftN k).sb.getLsbD i =
    if i < k then c.line.getD (k - 1 - i) true else c.sb.getLsbD (i - k) := by
  induction k generalizing i with
  | zero => rfl
  | succ k ih =>
    rw [Serial.shiftN, Serial.shift, getLsbD_shiftIn _ _ hi, Serial.shiftN_nextBit]
    cases i with
    | zero => rfl
    | succ i =>
      have hline : k - (i + 1) = k - 1 - i := by omega
      simp [ih (Nat.lt_of_succ_lt hi), hline]

/-- `out_byte` after at most eight shifts ends in the high bits of SB (R358). -/
theorem Serial.shiftN_outByte (c : Serial) {k : Nat} (hk : k ≤ 8) {i : Nat} (hi : i < k) :
    (c.shiftN k).outByte.getLsbD i = c.sb.getLsbD (8 - k + i) := by
  induction k generalizing i with
  | zero => exact absurd hi (Nat.not_lt_zero i)
  | succ k ih =>
    rw [Serial.shiftN, Serial.shift, getLsbD_shiftIn _ _ (by omega)]
    cases i with
    | zero =>
      have hbit : 8 - (k + 1) = 7 - k := by omega
      rw [if_pos rfl, c.shiftN_sb k (by decide), if_neg (by omega), Nat.add_zero, hbit]
    | succ i =>
      have hbit : 8 - (k + 1) + (i + 1) = 8 - k + i := by omega
      rw [if_neg (Nat.succ_ne_zero i), Nat.add_sub_cancel, ih (by omega) (by omega), hbit]

/-- A step that shifts, short of the eighth bit (R358). -/
theorem Serial.step_of_shifts {c : Serial} (h : c.shifts = true) (hc : c.completes = false) :
    c.step = { c.shift with acc := 0 } := by
  have ht : c.ticks = true := by simp_all [Serial.shifts]
  simp [Serial.step, h, hc, ht, Serial.shift, Serial.nextBit]

/-- The step that shifts the eighth bit (R359). -/
theorem Serial.step_of_completes {c : Serial} (h : c.completes = true) :
    c.step = { c.shift with acc := 0, running := false } := by
  have ht : c.ticks = true := by simp_all [Serial.shifts, Serial.completes]
  simp [Serial.step, h, ht, Serial.shift, Serial.complete, Serial.nextBit]

/-- A controller `n` T-states into a transfer on the internal clock: a bit has been shifted for each period (R358). -/
def Serial.during (c : Serial) (n : Nat) : Serial :=
  { c.shiftN ((c.acc + n) / 512) with acc := (c.acc + n) % 512 }

theorem Serial.during_ticks (c : Serial) (n : Nat) : (c.during n).ticks = true ↔ (c.acc + n) % 512 = 511 := by
  simp only [Serial.ticks, Serial.during, serialPeriod, beq_iff_eq]
  omega

section
variable {c : Serial} (hrun : c.running = true) (hint : c.internal = true)
include hrun hint

theorem Serial.during_shifts (n : Nat) : (c.during n).shifts = (c.during n).ticks := by
  have hruns : (c.during n).running = true := (c.shiftN_running _).trans hrun
  have hinternal : (c.during n).internal = true := (c.shiftN_internal _).trans hint
  rw [Serial.shifts, hruns, hinternal, Bool.and_true, Bool.and_true]

variable (hcount : c.bitCount = 0)
include hcount

/-- The eighth bit is shifted by the T-state that ends the eighth period (R358, R359). -/
theorem Serial.during_completes (n : Nat) : (c.during n).completes = true ↔ c.acc + n = 4095 := by
  have hbits : (c.during n).bitCount = (c.acc + n) / 512 := by
    rw [Serial.during, c.shiftN_bitCount, hcount, Nat.zero_add]
  rw [Serial.completes, Serial.during_shifts hrun hint, hbits, Bool.and_eq_true, Serial.during_ticks, beq_iff_eq,
    serialBits]
  omega

/-- A transfer goes on for the first seven periods (R358). -/
theorem Serial.step_during {n : Nat} (hn : c.acc + n < 4095) : (c.during n).step = c.during (n + 1) := by
  have hshifts := Serial.during_shifts hrun hint n
  by_cases htick : (c.acc + n) % 512 = 511
  · have hticks : (c.during n).ticks = true := (c.during_ticks n).2 htick
    have hgoes : (c.during n).completes = false :=
      Bool.eq_false_iff.2 (mt (Serial.during_completes hrun hint hcount n).1 (Nat.ne_of_lt hn))
    have hbits : (c.acc + (n + 1)) / 512 = (c.acc + n) / 512 + 1 := by omega
    have hacc : (c.acc + (n + 1)) % 512 = 0 := by omega
    rw [Serial.step_of_shifts (hshifts.trans hticks) hgoes, Serial.during, Serial.during, hbits, hacc]
    rfl
  · have hticks : (c.during n).ticks = false := Bool.eq_false_iff.2 (mt (c.during_ticks n).1 htick)
    have hbits : (c.acc + (n + 1)) / 512 = (c.acc + n) / 512 := by omega
    have hacc : (c.acc + (n + 1)) % 512 = (c.acc + n) % 512 + 1 := by omega
    rw [Serial.step_of_not_shifts (hshifts.trans hticks), hticks, Serial.during, Serial.during, hbits, hacc]
    rfl

/-- A transfer on the internal clock before its eighth tick (R358). -/
theorem serialSteps_eq_during (hacc : c.acc < 512) {n : Nat} (hn : c.acc + n ≤ 4095) :
    serialSteps n c = c.during n := by
  induction n with
  | zero =>
    have hbits : (c.acc + 0) / 512 = 0 := by omega
    have hphase : (c.acc + 0) % 512 = c.acc := by omega
    rw [Serial.during, hbits, hphase]
    rfl
  | succ n ih => rw [serialSteps_succ, ih (by omega), Serial.step_during hrun hint hcount hn]

/-- A transfer on the internal clock at its eighth tick: all eight bits are shifted, and it is over (R359). -/
theorem serialSteps_completed (hacc : c.acc < 512) :
    serialSteps (4096 - c.acc) c = { c.shiftN 8 with acc := 0, running := false } := by
  obtain ⟨n, hn⟩ : ∃ n, 4096 - c.acc = n + 1 := ⟨4095 - c.acc, by omega⟩
  have hlast : c.acc + n = 4095 := by omega
  rw [hn, serialSteps_succ, serialSteps_eq_during hrun hint hcount hacc (Nat.le_of_eq hlast),
    Serial.step_of_completes ((Serial.during_completes hrun hint hcount n).2 hlast), Serial.during, hlast]
  rfl

end

/-- A completion hands the byte to the host and requests interrupt 3 (R359). -/
theorem serialStep_of_completes {s : State} (h : s.serial.completes = true) :
    serialStep s = request .serial
      ((s.setSerial s.serial.step).setEvents (.serialOut s.serial.step.outByte :: s.events)) := by
  rw [serialStep]
  exact if_pos h

/-- A transfer ends only by completing (R359). -/
theorem Serial.completes_of_step {c : Serial} (hrun : c.running = true) (hstep : c.step.running = false) :
    c.completes = true := by
  cases hc : c.completes with
  | true => rfl
  | false =>
    have hstill : c.step.running = c.running := by
      cases hs : c.shifts with
      | true => rw [Serial.step_of_shifts hs hc]; rfl
      | false => rw [Serial.step_of_not_shifts hs]
    exact absurd ((hstill.trans hrun).symm.trans hstep) (by decide)

/-- Settles O24: the transfer is a run of shifts, and its last T-state a completion. -/
theorem serialTransferCompletes : Obligations.SerialTransferCompletes := by
  refine ⟨fun c hrun hint hcount _ hacc => ?transfer, fun s hrun hstep => ?completion⟩
  case transfer =>
    rw [serialSteps_completed hrun hint hcount hacc]
    refine ⟨fun k hk => ?_, rfl, ?_, BitVec.eq_of_getLsbD_eq fun i hi => ?_, fun i hi => ?_⟩
    · rw [serialSteps_eq_during hrun hint hcount hacc (by omega)]
      exact (c.shiftN_running _).trans hrun
    · exact (c.shiftN_bitCount 8).trans (by rw [hcount])
    · exact (c.shiftN_outByte (Nat.le_refl 8) hi).trans (by rw [Nat.sub_self, Nat.zero_add])
    · exact (c.shiftN_sb 8 hi).trans (if_pos hi)
  case completion =>
    rw [serialStep_serial] at hstep
    rw [serialStep_of_completes (Serial.completes_of_step hrun hstep)]
    exact ⟨by simp [request_getLsbD, Source.bit], rfl⟩

end Sys2Proof.Machine
end

section
/-! PROOFS. Family 60_exceptions: the registers of the interrupt controller, the timer and the serial controller on the
bus (R340, R341, R346 to R349, R356, R357), and the input block (R385, R386). -/

namespace Sys2Proof.Machine

/-- IF reads with bits 7 to 5 set (R340). -/
theorem readIF_eq (s : State) : readIF s = 0xE0 ||| s.irq.flag.setWidth 8 := by
  have hbits : ∀ f : BitVec 5, 0b111#3 ++ f = 0xE0#8 ||| f.setWidth 8 := by decide
  exact hbits s.irq.flag

/-- TAC reads with bits 7 to 3 set (R349). -/
theorem readTac_eq (s : State) : readTimer 0xFF07 s = 0xF8 ||| s.timer.tac.setWidth 8 := by
  have hbits : ∀ f : BitVec 3, 0b11111#5 ++ f = 0xF8#8 ||| f.setWidth 8 := by decide
  exact hbits s.timer.tac

/-- DIV reads the high byte of the counter (R346). -/
theorem readDiv_eq (s : State) : readTimer 0xFF04 s = BitVec.ofNat 8 (s.timer.div.toNat / 256) := by
  apply BitVec.eq_of_toNat_eq
  rw [BitVec.toNat_ofNat]
  exact (BitVec.extractLsb'_toNat 8 8 s.timer.div).trans (by rw [Nat.shiftRight_eq_div_pow])

/-- SC reads its two bits and six ones (R357). -/
theorem readSc_eq (s : State) : readSerial 0xFF02 s =
    0x7E ||| (if s.serial.running then 0x80 else 0x00) ||| (if s.serial.internal then 0x01 else 0x00) := by
  have h : readSerial 0xFF02 s = BitVec.ofBool s.serial.running ++ 0b111111#6 ++ BitVec.ofBool s.serial.internal := rfl
  rw [h]
  cases s.serial.running <;> cases s.serial.internal <;> rfl

section
variable {s : State} (hs : s.mapped)
include hs

/-- P1 (R62). -/
theorem handler_input : s.handler 0xFF00 = .input :=
  handler_of_mapped hs (lo := 0xFF00) (hi := 0xFF00) (by decide) (by decide) (by decide)

/-- SB and SC (R62). -/
theorem handler_serial {a : Word} (hlo : 0xFF01 ≤ a.toNat) (hhi : a.toNat ≤ 0xFF02) : s.handler a = .serial :=
  handler_of_mapped hs (lo := 0xFF01) (hi := 0xFF02) (by decide) hlo hhi

/-- DIV, TIMA, TMA and TAC (R62). -/
theorem handler_timer {a : Word} (hlo : 0xFF04 ≤ a.toNat) (hhi : a.toNat ≤ 0xFF07) : s.handler a = .timer :=
  handler_of_mapped hs (lo := 0xFF04) (hi := 0xFF07) (by decide) hlo hhi

/-- IF (R62). -/
theorem handler_interruptFlag : s.handler 0xFF0F = .interruptController :=
  handler_of_mapped hs (lo := 0xFF0F) (hi := 0xFF0F) (by decide) (by decide) (by decide)

/-- IE (R62). -/
theorem handler_interruptEnable : s.handler 0xFFFF = .interruptController :=
  handler_of_mapped hs (lo := 0xFFFF) (hi := 0xFFFF) (by decide) (by decide) (by decide)

end

/-- Settles O23: each access is that of the device that serves the address, whose reads are spelled out above. -/
theorem deviceRegisters : Obligations.DeviceRegisters := by
  intro s v hs
  have hflag := handler_interruptFlag hs
  have henable := handler_interruptEnable hs
  have hdiv : s.handler 0xFF04 = .timer := handler_timer hs (by decide) (by decide)
  have htima : s.handler 0xFF05 = .timer := handler_timer hs (by decide) (by decide)
  have htma : s.handler 0xFF06 = .timer := handler_timer hs (by decide) (by decide)
  have htac : s.handler 0xFF07 = .timer := handler_timer hs (by decide) (by decide)
  have hsb : s.handler 0xFF01 = .serial := handler_serial hs (by decide) (by decide)
  have hsc : s.handler 0xFF02 = .serial := handler_serial hs (by decide) (by decide)
  rw [← readIF_eq, ← readDiv_eq, ← readTac_eq, ← readSc_eq, ← BitVec.setWidth_eq_extractLsb' (by decide),
    ← BitVec.setWidth_eq_extractLsb' (by decide)]
  refine ⟨busRead_of_handler hflag, busRead_of_handler henable, busWrite_of_handler hflag v,
    busWrite_of_handler henable v, busRead_of_handler hdiv, busRead_of_handler htima, busRead_of_handler htma,
    busRead_of_handler htac, busWrite_of_handler hdiv v, busWrite_of_handler htima v, busWrite_of_handler htma v,
    busWrite_of_handler htac v, busRead_of_handler hsb, busRead_of_handler hsc, busWrite_of_handler hsb v,
    fun hstart => ?start, fun hstop => ?stop⟩
  case start => exact (busWrite_of_handler hsc v).trans (congrArg s.setSerial (if_pos hstart))
  case stop => exact (busWrite_of_handler hsc v).trans (congrArg s.setSerial (if_neg (Bool.eq_false_iff.1 hstop)))

/-- Four bits in a row, the last one lowest. -/
theorem getLsbD_ofBools (b3 b2 b1 b0 : Bool) {j : Nat} : j < 4 →
    (BitVec.ofBool b3 ++ BitVec.ofBool b2 ++ BitVec.ofBool b1 ++ BitVec.ofBool b0).getLsbD j =
      match j with | 0 => b0 | 1 => b1 | 2 => b2 | _ => b3 := by
  intro hj
  match j, hj with
  | 0, _ | 1, _ | 2, _ | 3, _ => cases b3 <;> cases b2 <;> cases b1 <;> cases b0 <;> rfl

/-- A low bit of P1 is 0 exactly where a selected group has its button pressed (R385). -/
theorem p1Low_getLsbD (select : BitVec 2) (now : Buttons) {j : Nat} (hj : j < 4) : (p1Low select now).getLsbD j =
    ((select.getLsbD 0 || !now.directions.getLsbD j) && (select.getLsbD 1 || !now.actions.getLsbD j)) := by
  have hbits : ∀ i, i < 4 → (0b1111#4).getLsbD i = true := by decide
  have hones := hbits j hj
  cases h0 : select.getLsbD 0 <;> cases h1 : select.getLsbD 1 <;>
    simp only [p1Low, h0, h1, if_true, if_false, Bool.false_eq_true, BitVec.getLsbD_and, BitVec.getLsbD_not, hones,
      decide_eq_true hj, Bool.true_and, Bool.and_true, Bool.true_or, Bool.false_or]

/-- P1 as a byte, field by field (R385). -/
theorem readP1_getLsbD (s : State) (j : Nat) : (readP1 s).1.getLsbD j =
    if j < 4 then (p1Low s.input.select s.input.next).getLsbD j
    else if j - 4 < 2 then s.input.select.getLsbD (j - 4) else (0b11#2).getLsbD (j - 4 - 2) := by
  rw [readP1, BitVec.getLsbD_append, BitVec.getLsbD_append]

/-- A poll requests interrupt 4 on a press (R386). -/
theorem poll_flag (s : State) : (poll s).irq.flag = if s.pressSeen then s.irq.flag ||| 0b10000 else s.irq.flag := by
  rw [poll]
  cases s.pressSeen <;> rfl

/-- Settles O32: a read of P1 is `readP1`, whose byte is given field by field, and a poll. -/
theorem inputRegister : Obligations.InputRegister := by
  intro s v hs
  have hh := handler_input hs
  have hread : busRead 0xFF00 s = readP1 s := busRead_of_handler hh
  rw [hread]
  refine ⟨fun j hj => ?_, readP1_getLsbD s 4, readP1_getLsbD s 5, readP1_getLsbD s 6, readP1_getLsbD s 7, ?_,
    poll_flag s, busWrite_of_handler hh v⟩
  · have hdir : s.input.next.directions.getLsbD j = _ := getLsbD_ofBools _ _ _ _ hj
    have hbtn : s.input.next.actions.getLsbD j = _ := getLsbD_ofBools _ _ _ _ hj
    have hbit := ((readP1_getLsbD s j).trans (if_pos hj)).trans (p1Low_getLsbD _ _ hj)
    rw [hdir, hbtn] at hbit
    exact hbit
  · exact requestIf_input _ _ _

end Sys2Proof.Machine
end

section
/-! PROOFS. Family 60_exceptions: the video controller: LY and the mode (R369, R371), the display switched off and on
(R374), and its registers on the bus (R366 to R370, R377). -/

namespace Sys2Proof.Machine

/-- Within a frame LY is the scanline (R369). -/
theorem ly_toNat (v : Video) (h : v.frameCycle < 70224) : v.ly.toNat = v.frameCycle / 456 := by
  rw [Video.ly, lineCycles, BitVec.toNat_ofNat]
  omega

/-- In the active portion the mode follows the position in the scanline (R371). -/
theorem Video.mode_of_active {v : Video} (h : v.frameCycle < 65664) :
    v.mode = if v.frameCycle % 456 < 80 then 2 else if v.frameCycle % 456 < 252 then 3 else 0 :=
  if_neg (Nat.not_le.2 h)

/-- Settles O26: the scanlines before 65664 are the active portion, and those from there VBlank. -/
theorem scanlineAndMode : Obligations.ScanlineAndMode := by
  intro v hv
  have hly := ly_toNat v hv
  refine ⟨hly, by omega, fun ha hoam => ?oamRead, fun ha hoam hvram => ?vramRead, fun ha hblank => ?hblank,
    fun hvblank => if_pos hvblank⟩
  case oamRead => rw [Video.mode_of_active ha, if_pos hoam]
  case vramRead => rw [Video.mode_of_active ha, if_neg (Nat.not_lt.2 hoam), if_pos hvram]
  case hblank => rw [Video.mode_of_active ha, if_neg (by omega), if_neg (Nat.not_lt.2 hblank)]

/-- `CompareLY()` writes the compare flag, and IF where a match is selected (R369); `p` says when LY is LYC. -/
theorem compareLy_setVideo (s : State) (x : Video) {p : Prop} [Decidable p] (hp : x.ly = x.lyc ↔ p) :
    compareLy (s.setVideo x) = (s.setVideo { x with lycEq := decide p }).setIrq
      { s.irq with flag := if p ∧ x.statSel.getLsbD 3 = true then s.irq.flag ||| 0b00010 else s.irq.flag } := by
  have hmatch : (x.ly == x.lyc) = decide p := by rw [Bool.eq_iff_iff, beq_iff_eq, decide_eq_true_iff, hp]
  have hselect : (p ∧ x.statSel.getLsbD 3 = true) ↔ (decide p && x.selectLyc) = true := by
    rw [Bool.and_eq_true, decide_eq_true_iff, Video.selectLyc]
  simp only [compareLy, State.setVideo_video, hmatch, hselect]
  cases decide p && x.selectLyc <;> rfl

/-- LY at the start of a frame (R369). -/
theorem ly_of_start {x : Video} (h : x.frameCycle = 0) : x.ly = 0x00 := by
  rw [Video.ly, h]
  decide

/-- A write of LCDC that disables the display starts the frame over and compares again: LY is then 0 (R374). -/
theorem writeLcdc_of_disable {s : State} {v : Byte} (hon : s.video.displayOn = true) (hv : v.getLsbD 7 = false) :
    writeLcdc v s = (s.setVideo
      { s.video with lcdc := v, frameCycle := 0, lycEq := decide (s.video.lyc = 0x00) }).setIrq
      { s.irq with flag :=
          if s.video.lyc = 0x00 ∧ s.video.statSel.getLsbD 3 = true then s.irq.flag ||| 0b00010
          else s.irq.flag } := by
  have hcompare : writeLcdc v s = compareLy (s.setVideo { s.video with lcdc := v, frameCycle := 0 }) := by
    simp only [writeLcdc, hon, hv]
    rfl
  rw [hcompare]
  exact compareLy_setVideo s { s.video with lcdc := v, frameCycle := 0 } (by rw [ly_of_start rfl, eq_comm])

/-- A write of LCDC that enables the display starts the frame over (R374). -/
theorem writeLcdc_of_enable {s : State} {v : Byte} (hoff : s.video.displayOn = false) (hv : v.getLsbD 7 = true) :
    writeLcdc v s = s.setVideo { s.video with lcdc := v, frameCycle := 0 } := by
  simp only [writeLcdc, hoff, hv]
  rfl

/-- A write of LCDC that keeps bit 7 stores the byte (R374). -/
theorem writeLcdc_of_keep {s : State} {v : Byte} (h : s.video.displayOn = v.getLsbD 7) :
    writeLcdc v s = s.setVideo { s.video with lcdc := v } := by
  cases hv : v.getLsbD 7 <;> (simp only [writeLcdc, h, hv]; rfl)

/-- LCDC holds the byte written to it (R366). -/
theorem writeLcdc_lcdc (v : Byte) (s : State) : (writeLcdc v s).video.lcdc = v := by
  cases hon : s.video.displayOn <;> cases hv : v.getLsbD 7
  case true.false => rw [writeLcdc_of_disable hon hv]; rfl
  case false.true => rw [writeLcdc_of_enable hon hv]; rfl
  all_goals rw [writeLcdc_of_keep (hon.trans hv.symm)]; rfl

/-- Settles O28: the three writes of LCDC by what they do to bit 7, and the step of the disabled controller. -/
theorem displayDisableAndEnable : Obligations.DisplayDisableAndEnable := by
  intro s v
  refine ⟨fun hon hv => ?_, fun hoff hv => writeLcdc_of_enable hoff hv, fun h => writeLcdc_of_keep h,
    videoStep_of_off s⟩
  have hwrite : writeVideo 0xFF40 v s = _ := writeLcdc_of_disable hon hv
  rw [hwrite]
  exact ⟨rfl, ly_of_start rfl, rfl, rfl⟩

/-- STAT as the disjunction of its fields (R367). -/
theorem readStat_eq (s : State) : readStat s = 0x80 ||| (s.video.statSel.setWidth 8 <<< 3) |||
    (if s.video.lycEq then 0x04 else 0x00) ||| s.video.mode.setWidth 8 := by
  have hbits : ∀ (sel : BitVec 4) (eq : Bool) (mode : BitVec 2), 1#1 ++ sel ++ BitVec.ofBool eq ++ mode =
      0x80#8 ||| (sel.setWidth 8 <<< 3) ||| (if eq then 0x04#8 else 0x00#8) ||| mode.setWidth 8 := by decide
  exact hbits s.video.statSel s.video.lycEq s.video.mode

/-- The video registers (R62). -/
theorem handler_videoRegisters {s : State} (hs : s.mapped) {a : Word} (hlo : 0xFF40 ≤ a.toNat)
    (hhi : a.toNat ≤ 0xFF4B) : s.handler a = .videoRegisters :=
  handler_of_mapped hs (lo := 0xFF40) (hi := 0xFF4B) (by decide) hlo hhi

/-- A read of a video register. -/
theorem busRead_videoRegister {s : State} (hs : s.mapped) {a : Word}
    (ha : 0xFF40 ≤ a.toNat ∧ a.toNat ≤ 0xFF4B) : busRead a s = (readVideo a s, s) :=
  busRead_of_handler (handler_videoRegisters hs ha.1 ha.2)

/-- A write of a video register other than DMA. -/
theorem busWrite_videoRegister {s : State} (hs : s.mapped) {a : Word} (ha : 0xFF40 ≤ a.toNat ∧ a.toNat ≤ 0xFF4B)
    (hdma : a ≠ 0xFF46) (v : Byte) : busWrite a v s = writeVideo a v s :=
  (busWrite_of_handler (handler_videoRegisters hs ha.1 ha.2) v).trans (if_neg hdma)

/-- An OAM DMA and its stall rebind nothing (R74). -/
theorem oamDma_mapped {s : State} (hs : s.mapped) (v : Byte) : (oamDma v s).mapped := by
  have hdma : (s.withDma v).mapped := hs
  rw [State.mapped, oamDma_eq, tickN_slots, dmaCopy_slots _ _ _ hdma]
  exact hs

/-- DMA reads back (R377). -/
theorem busRead_dma_busWrite {s : State} (hs : s.mapped) (v : Byte) :
    busRead 0xFF46 (busWrite 0xFF46 v s) = (v, busWrite 0xFF46 v s) := by
  rw [busWrite_dma hs, busRead_videoRegister (oamDma_mapped hs v) (by decide)]
  exact congrArg (·, oamDma v s) (oamDma_dma v s)

/-- Settles O30: every access of the range is one of `readVideo` or `writeVideo`, but for the write of DMA. -/
theorem videoRegistersReadBack : Obligations.VideoRegistersReadBack := by
  intro s v hs
  have hread {a : Word} (ha : 0xFF40 ≤ a.toNat ∧ a.toNat ≤ 0xFF4B) : busRead a s = (readVideo a s, s) :=
    busRead_videoRegister hs ha
  have hwrite {a : Word} (ha : (0xFF40 ≤ a.toNat ∧ a.toNat ≤ 0xFF4B) ∧ a ≠ 0xFF46) :
      busWrite a v s = writeVideo a v s := busWrite_videoRegister hs ha.1 ha.2 v
  have hlcdc : busWrite 0xFF40 v s = writeVideo 0xFF40 v s := hwrite (by decide)
  refine ⟨hread (by decide), hread (by decide), hread (by decide), hread (by decide), hread (by decide),
    hread (by decide), hread (by decide), hread (by decide), hread (by decide), hread (by decide),
    hread (by decide), ?stat, hlcdc, ?lcdc, hwrite (by decide), hwrite (by decide), hwrite (by decide),
    hwrite (by decide), ?lyc, busRead_dma_busWrite hs v, hwrite (by decide), hwrite (by decide), hwrite (by decide),
    hwrite (by decide), hwrite (by decide), rfl⟩
  case stat =>
    rw [← readStat_eq]
    exact hread (by decide)
  case lcdc =>
    rw [hlcdc]
    exact writeLcdc_lcdc v s
  case lyc =>
    rw [hwrite (by decide)]
    exact compareLy_setVideo s { s.video with lyc := v } Iff.rfl

end Sys2Proof.Machine
end

section
/-! PROOFS. Family 60_exceptions: the renderer (R373, R376). -/

namespace Sys2Proof.Machine

/-- The frame buffer with `n` pixels of a line rendered: those pixels, and the rest as it was (R376). -/
theorem renderPixels_read (s : State) (y n k : Nat) : (renderPixels s y n).read k =
    if y * 160 ≤ k ∧ k < y * 160 + n then renderPixel s y (k - y * 160) else s.frameBuffer.read k := by
  induction n with
  | zero => rw [if_neg (by omega)]; rfl
  | succ n ih =>
    rw [renderPixels, Memory.read_write, ih, pixelCell, lineWidth]
    by_cases hk : k = y * 160 + n
    · rw [if_pos hk, if_pos (by omega), hk, Nat.add_sub_cancel_left]
    · have hsame : (y * 160 ≤ k ∧ k < y * 160 + (n + 1)) ↔ (y * 160 ≤ k ∧ k < y * 160 + n) := by omega
      rw [if_neg hk]
      simp only [hsame]

/-- The frame buffer after a line is rendered (R373, R376). -/
theorem renderLine_read {s : State} (hs : s.video.frameCycle < 65664) (k : Nat) : (renderLine s).frameBuffer.read k =
    if s.video.frameCycle / 456 * 160 ≤ k ∧ k < s.video.frameCycle / 456 * 160 + 160 then
      renderPixel s (s.video.frameCycle / 456) (k - s.video.frameCycle / 456 * 160)
    else s.frameBuffer.read k := by
  have hly : s.video.ly.toNat = s.video.frameCycle / 456 := ly_toNat s.video (by omega)
  rw [renderLine, State.setFrameBuffer_frameBuffer, hly]
  exact renderPixels_read s _ 160 k

/-- An entry of a palette is a pair of its bits (R370). -/
theorem paletteEntry_toNat (p : Byte) (i : Nat) : (paletteEntry p i).toNat = p.toNat / 4 ^ i % 4 := by
  rw [paletteEntry, BitVec.extractLsb'_toNat, Nat.shiftRight_eq_div_pow, Nat.pow_mul]

/-- The background map as a number (R366). -/
theorem backgroundMap_toNat (v : Video) :
    v.fields.backgroundMap.toNat = if v.lcdc.getLsbD 3 = true then 0x9C00 else 0x9800 :=
  apply_ite BitVec.toNat _ _ _

/-- Where the data of tile `t` stands (R373): indices from 0x8000, or signed ones around 0x9000. -/
def Video.tileStart (v : Video) (t : Nat) : Nat :=
  if v.lcdc.getLsbD 4 then 0x8000 + t * 16 else if t < 128 then 0x9000 + t * 16 else 0x8000 + t * 16

/-- The offset of 128 of a signed index (R373). -/
theorem xor_signBit_toNat :
    ∀ t : Byte, (t ^^^ 0x80).toNat = if t.toNat < 128 then t.toNat + 128 else t.toNat - 128 := by decide

theorem tileAddress_eq (v : Video) (t : Byte) : tileAddress v.fields.signedIndex t = v.tileStart t.toNat := by
  have hsigned : v.fields.signedIndex = !v.lcdc.getLsbD 4 := rfl
  rw [tileAddress, Video.tileStart, hsigned, xor_signBit_toNat]
  cases v.lcdc.getLsbD 4 with
  | true => rfl
  | false =>
    simp only [Bool.not_false, if_true, Bool.false_eq_true, if_false]
    split <;> omega

/-- The palette index of the background at `(px, py)`, with the map at `map` and the tiles where `tile` says (R373). -/
def State.backgroundIndex (s : State) (map : Nat) (tile : Byte → Nat) (px py : Nat) : Nat :=
  let row := tile (s.mem.read (map + py / 8 * 32 + px / 8)) + py % 8 * 2
  2 * ((s.mem.read (row + 1)).getLsbD (7 - px % 8)).toNat + ((s.mem.read row).getLsbD (7 - px % 8)).toNat

/-- With the background enabled a pixel is the palette's entry for its index (R373). -/
theorem renderPixel_of_on {s : State} (hon : s.video.lcdc.getLsbD 0 = true) (y x : Nat) :
    renderPixel s y x = (paletteEntry s.video.bgp (s.backgroundIndex s.video.fields.backgroundMap.toNat
      (tileAddress s.video.fields.signedIndex) ((x + s.video.scx.toNat) % 256)
      ((y + s.video.scy.toNat) % 256))).setWidth 8 :=
  if_pos hon

/-- With the background disabled a pixel is 0 (R373). -/
theorem renderPixel_of_off {s : State} (hoff : ¬s.video.lcdc.getLsbD 0 = true) (y x : Nat) :
    renderPixel s y x = 0x00 := if_neg hoff

/-- The colour of a pixel as a number (R370, R373). -/
theorem renderPixel_toNat (s : State) (y x : Nat) : (renderPixel s y x).toNat =
    if s.video.lcdc.getLsbD 0 then
      s.video.bgp.toNat / 4 ^ s.backgroundIndex (if s.video.lcdc.getLsbD 3 then 0x9C00 else 0x9800)
        (fun t => s.video.tileStart t.toNat) ((x + s.video.scx.toNat) % 256) ((y + s.video.scy.toNat) % 256) % 4
    else 0 := by
  by_cases hon : s.video.lcdc.getLsbD 0 = true
  · have htile : tileAddress s.video.fields.signedIndex = fun t => s.video.tileStart t.toNat :=
      funext (tileAddress_eq s.video)
    rw [renderPixel_of_on hon, BitVec.toNat_setWidth_of_le (by decide), paletteEntry_toNat, backgroundMap_toNat, htile,
      if_pos hon]
  · rw [renderPixel_of_off hon, if_neg hon]
    rfl

/-- Settles O29: the line's cells hold its pixels, and each pixel is the palette's entry for its two bits. -/
theorem renderLine_pixels : Obligations.RenderLine := by
  intro s x hs hx y px py map t tile lo hi idx
  refine ⟨?_, fun k hk => ?_⟩
  · have hidx : idx = s.backgroundIndex map (fun t => s.video.tileStart t.toNat) px py :=
      congrArg (· + lo.toNat) (Nat.mul_comm _ _)
    rw [renderLine_read hs, if_pos (by omega), Nat.add_sub_cancel_left, hidx]
    exact renderPixel_toNat s y x
  · rw [renderLine_read hs, if_neg (by omega)]

end Sys2Proof.Machine
end
